-- ==== Sys2Proof/Word.lean ====
section
/-! DEFINITION. The words of the controller: data bytes, byte strings, the CRC value, the host-port words
(00_scope.md R16, R18, R19; 30_encoding.md R126 to R128). -/

namespace Sys2Proof

/-- A byte, bit 0 the least significant (R16, R18). -/
abbrev Byte := BitVec 8

/-- A byte string; byte 0 is the first byte on the wire (R19, R84). -/
abbrev Bytes := List Byte

/-- The 16-bit CRC value (R16). -/
abbrev Crc := BitVec 16

/-- A host command word (R126). -/
abbrev HostWord := BitVec 64

/-- A SETTINGS word (R127). -/
abbrev Settings := BitVec 32

/-- A READINGS word (R128). -/
abbrev Readings := BitVec 32

end Sys2Proof
end

