-- ==== Sys2Proof/Syntax.lean ====
section
/-! DEFINITION. The operands and the instructions: one constructor of `Instr` per row of spec/opcode_table.json
(30_encoding.md R141). -/

namespace Sys2Proof

/-- The parity mode of a transmit call (30_encoding.md R111). -/
inductive Parity
  | space
  | mark
deriving DecidableEq, Repr, Inhabited

/-- The timeout tier of a bus receive (41_transport.md R194). The non-blocking tier carries no bus receive
(90_conflicts.md C5) and has no constructor. -/
inductive Tier
  | short
  | long
deriving DecidableEq, Repr, Inhabited

/-- The sequencer's states (10_state.md R50). -/
inductive EngineState
  | setup
  | drainSettings
  | checkRemoteEnabled
  | dormant
  | waitForPoll
  | headerExchange
  | dataExchange
  | pollSiblings
deriving DecidableEq, Repr, Inhabited

/-- The three operating modes that a selector byte encodes (10_state.md R36, 30_encoding.md R129). -/
inductive Selector
  | timer
  | comfort
  | eco
deriving DecidableEq, Repr, Inhabited

/-- A mailbox: one settings mailbox per register set, and the readings mailbox (10_state.md R48, R49). -/
inductive Mailbox
  | settings (h : Nat)
  | readings
deriving DecidableEq, Repr

/-- The expected length of VERIFY_REPLY: 1 or 2, fixed by the call site (40_codec.md R166). -/
inductive AckLen
  | one
  | two
deriving DecidableEq, Repr

/-- One constructor per row of the opcode table, in the table's order. -/
inductive Instr
  -- host commands (30_encoding.md R126)
  | addInstance (deviceAddr pollAddr regulatorAddr : Byte)
  | start
  | sendSettings (handle : Byte) (settings : Settings)
  | receiveReadings
  -- bus frames the controller sends (30_encoding.md R116 to R118, R120, R122, R124, R125)
  | pollTx (addr : Byte)
  | hsAck
  | hsPoll
  | hdrAck (pollAddress : Byte)
  | cmdStatus (deviceAddress : Byte)
  | cmdConfig (deviceAddress : Byte)
  /-- `payload` is bytes 5 to 44 of the frame. -/
  | configWrite (deviceAddress : Byte) (payload : Bytes)
  /-- `body` is bytes 1 to 5 of the frame. -/
  | pollReply (body : Bytes)
  -- bus frames the controller receives (30_encoding.md R114 to R116, R119, R121, R123)
  | pollRx (b : Byte)
  | ack1
  | ack2
  /-- `flags` is byte 5 of the frame. -/
  | hdrReply (flags : Byte)
  /-- `payload` is bytes 5 to 20 of the frame. -/
  | statusReply (payload : Bytes)
  /-- `payload` is bytes 5 to 44 of the frame. -/
  | configReply (payload : Bytes)
  -- operations of the framing and CRC unit (40_codec.md R163 to R169)
  | crcCompute (buffer : Bytes) (start length : Nat)
  | crcInsert (buffer : Bytes) (start length : Nat)
  | verifyMessage (buffer : Bytes) (length : Nat)
  | verifyReply (buffer : Bytes) (expected : AckLen)
  | buildMessage (body : Bytes) (length : Nat)
  | evenParityAddr (a7 : BitVec 7)
  | parityOk (b : Byte)
  | slotOffset (deviceAddress : Byte)
  -- operations of the transport port (41_transport.md R190, R193)
  | tx (bytes : Bytes) (parity : Parity)
  | rx (n : Nat) (tier : Tier)
  -- mailbox operations and their engine-side users (43_registry_mailboxes.md R285, R286, R288, R292)
  | trySend (m : Mailbox) (v : BitVec 32)
  | tryRecv (m : Mailbox)
  | applySettings (h : Nat) (settings : Settings)
  | publishReadings (readings : Readings)
  -- pseudo-operations (30_encoding.md R140)
  | handshake
  | expectAck1
  | expectMsg (length : Nat) (header : Bytes)
  | sendMsg (body : Bytes) (length : Nat)
  -- engine states (42_engine.md R212 to R243)
  | drainSettings
  | checkRemoteEnabled
  | dormant
  | waitForPoll
  | headerExchange
  | dataExchange
  | pollSiblings
deriving DecidableEq, Repr

/-- What crosses a port as one transaction: a host command word, or a byte string on the bus with its direction.
No frame carries its length or its kind; the engine's state tells both (30_encoding.md R110, R135), so a bus string
comes with the sequencer state in which it is sent or received. -/
inductive PortWord
  | host (w : HostWord)
  | tx (st : EngineState) (bytes : Bytes) (parity : Parity)
  | rx (st : EngineState) (bytes : Bytes)
deriving DecidableEq, Repr

end Sys2Proof
end

