-- ==== Sys2Proof/Config.lean ====
section
/-! DEFINITION. The implementation parameters (00_scope.md R15) and the free values (every `draw` of the spec,
00_scope.md R23). A parameter with a default is a field of `Parameters`, a parameter that the spec leaves OPEN and a
free value are constants with no body, so that nothing can be proved of what they are. A free value that is drawn more
than once is applied to `State.draws`, a counter that each draw advances. -/

namespace Sys2Proof.Config

/-- `N_DEV_MAX` less one: the parameter is a natural number, at least 1 (R15, 92_eei_decisions.md D6). -/
opaque nDevMaxPred : Nat

/-- `N_DEV_MAX`, the greatest number of registered devices (R15, R17). -/
def nDevMax : Nat := nDevMaxPred + 1

/-- Byte `i` of `POLL_REPLY_BODY(deviceAddress, skip)` (R15, 92_eei_decisions.md D28). -/
opaque pollReplyBodyByte : Byte → Bool → Fin 5 → Byte

/-- `POLL_REPLY_BODY(deviceAddress, skip)`, five bytes (R15, 30_encoding.md R125). -/
def pollReplyBody (deviceAddress : Byte) (skip : Bool) : Bytes :=
  List.ofFn (pollReplyBodyByte deviceAddress skip)

/-- The parameters to which the spec gives a default (R15). DESIGN CHOICE, safe: notes/assumptions/8.md. -/
structure Parameters where
  /-- `PREV_CLEARED_ON_TIMEOUT`, default true (R15, 92_eei_decisions.md D18). -/
  prevClearedOnTimeout : Bool := true
  /-- `SKIP_GATES_SIBLING_SIM`, default false (R15, 90_conflicts.md C2, 92_eei_decisions.md D26). -/
  skipGatesSiblingSim : Bool := false
deriving DecidableEq, Repr

/-- The selector of a new register set: `draw {0,3,4}` (10_state.md R32). -/
opaque newSelector : Nat → Selector

/-- The knob setting of a new register set: `draw byte` (10_state.md R32). -/
opaque newKnobSetting : Nat → Byte

/-- The measured temperature of a new register set: `draw byte` (10_state.md R32). -/
opaque newMeasTemp : Nat → Byte

/-- Bit 0 of the DIP switch of a new register set: `draw {0x80,0x81}` (10_state.md R32, R39). -/
opaque newIgnore : Nat → Bool

/-- The reduced setpoint of a new register set: `draw byte` (10_state.md R32). -/
opaque newReducedTemp : Nat → Byte

/-- The comfort setpoint of a new register set: `draw byte` (10_state.md R32). -/
opaque newComfortTemp : Nat → Byte

/-- The skip flag of a new register set: `draw bit` (10_state.md R32). -/
opaque newSkip : Nat → Bool

/-- `G.remoteControlEnabled` at START: `draw bit` (43_registry_mailboxes.md R282). -/
opaque startRemote : Nat → Bool

/-- `G.apiLoggingEnabled` at START: `draw bit` (43_registry_mailboxes.md R282). -/
opaque startApi : Nat → Bool

/-- `G.serialLoggingEnabled` at START: `draw bit` (43_registry_mailboxes.md R282). -/
opaque startSerial : Nat → Bool

/-- The places at which the handles are put into the drain order of one cycle (42_engine.md R213). -/
opaque drainPlace : Nat → Nat → Nat

/-- What the bus environment returns to a receive for which no answer is held ready (41_transport.md R193). -/
opaque busAnswer : Nat → Bytes

/-- Whether a string that arrives while no receive is open is held for a later receive (41_transport.md R195). -/
opaque heldForLater : Nat → Bool

/-- Whether a host agent issues a command at its turn although none is held ready, and which (00_scope.md R11). -/
opaque hostCommand : Nat → Option HostWord

/-- How many turns the host agents have before the engine's next micro-step: any finite number (00_scope.md R13,
60_exceptions.md R311, 70_reset_and_hazards.md R344). -/
opaque hostTurns : Nat → Nat

/-- `RXB` while it is meaningless (10_state.md R54, 60_exceptions.md R304). -/
opaque freeRxb : Nat → Bytes

/-- `TXB` while it is meaningless (10_state.md R54, 60_exceptions.md R304). The spec gives `TXB` no size, so this is a
string of any length. DESIGN CHOICE, safe: notes/assumptions/9.md. -/
opaque freeTxb : Nat → Bytes

/-- The 48 bytes of `CFG` while it is meaningless (10_state.md R54, 60_exceptions.md R304). -/
opaque freeCfg : Nat → Fin 48 → Byte

/-- `RL` while it is meaningless (10_state.md R55, 93_implementation_defined.md U22). -/
opaque freeRl : Nat → Readings

end Sys2Proof.Config
end

