-- ==== Sys2Proof/Machine/Framing.lean ====
section
/-! DEFINITION. The framing and CRC unit as pure functions (40_codec.md), and the poll-address and slot codes.
The unit holds no state between operations (10_state.md R56, 40_codec.md R170). -/

namespace Sys2Proof.Machine

/-- `lo8` (00_scope.md R18). -/
def lo8 (x : Crc) : Byte := x.extractLsb' 0 8

/-- `hi8` (00_scope.md R18). -/
def hi8 (x : Crc) : Byte := x.extractLsb' 8 8

/-- One of the eight shifts of the bitwise algorithm; 0x8408 is 0x1021 reversed (40_codec.md R161). -/
def crcShift (c : Crc) : Crc :=
  if c.getLsbD 0 then (c >>> 1) ^^^ 0x8408#16 else c >>> 1

/-- One byte enters at the low end and is divided out (40_codec.md R161). -/
def crcByte (c : Crc) (b : Byte) : Crc :=
  Nat.repeat crcShift 8 (c ^^^ b.setWidth 16)

/-- The CRC register after `bytes`, from the register value `c` (40_codec.md R161). -/
def crcFrom (c : Crc) (bytes : Bytes) : Crc := bytes.foldl crcByte c

/-- `CRC16K`: initial value 0, no final XOR (40_codec.md R160, R161). -/
def crc16k (bytes : Bytes) : Crc := crcFrom 0#16 bytes

/-- `MemRead(buf, i, n)` (00_scope.md R19). -/
def memRead (buf : Bytes) (i n : Nat) : Bytes := (buf.drop i).take n

/-- `CRC_COMPUTE`; no result where the range leaves the buffer (40_codec.md R163, 92_eei_decisions.md D42). -/
def crcCompute (buffer : Bytes) (start length : Nat) : Option Crc :=
  if start + length ≤ buffer.length then some (crc16k (memRead buffer start length)) else none

/-- `CRC_INSERT`: the two bytes after the covered range, low byte first; no result where they leave the buffer
(40_codec.md R164, 20_memory.md R83). -/
def crcInsert (buffer : Bytes) (start length : Nat) : Option Bytes :=
  if start + length + 2 ≤ buffer.length then
    (crcCompute buffer start length).map fun c =>
      (buffer.set (start + length) (lo8 c)).set (start + length + 1) (hi8 c)
  else none

/-- The message start byte (20_memory.md R89). -/
def startByte : Byte := 0x82#8

/-- The message end byte (20_memory.md R89). -/
def endByte : Byte := 0x03#8

/-- `VERIFY_MESSAGE` (40_codec.md R165); a buffer shorter than `length` has no end byte and fails. -/
def verifyMessage (buffer : Bytes) (length : Nat) : Bool :=
  if length < 4 then false
  else
    let c := crc16k (memRead buffer 1 (length - 4))
    buffer[0]? == some startByte && buffer[length - 1]? == some endByte
      && buffer[length - 3]? == some (lo8 c) && buffer[length - 2]? == some (hi8 c)

/-- The acknowledgement of the expected length (30_encoding.md R114, R115). -/
def ackBytes : AckLen → Bytes
  | .one => [0x06#8]
  | .two => [0x06#8, 0x90#8]

/-- `VERIFY_REPLY`: equality of whole strings (40_codec.md R166). -/
def verifyReply (buffer : Bytes) (expected : AckLen) : Bool := buffer == ackBytes expected

/-- The envelope of a message (30_encoding.md R112). -/
def envelope (body : Bytes) : Bytes :=
  [startByte] ++ body ++ [lo8 (crc16k body), hi8 (crc16k body)] ++ [endByte]

/-- `BUILD_MESSAGE(body, L)` (40_codec.md R167). For `L < 4`, which R167 does not admit, `L - 4` is cut to 0: the CRC of
the empty range goes to bytes 1 and 2 (DESIGN CHOICE, unsafe: notes/assumptions/30.md); where the CRC field would leave
the buffer there is no result (notes/assumptions/22.md). -/
def buildMessage (body : Bytes) (length : Nat) : Option Bytes :=
  crcInsert ([startByte] ++ body ++ [0x00#8, 0x00#8] ++ [endByte]) 1 (length - 4)

/-- `popcount` (00_scope.md R18). -/
def popcount {w : Nat} (b : BitVec w) : Nat :=
  ((List.range w).filter b.getLsbD).length

/-- `EVEN_PARITY_ADDR(a7)` (40_codec.md R168). -/
def evenParityAddr (a7 : BitVec 7) : Byte :=
  a7.setWidth 8 ||| (BitVec.ofNat 8 (popcount a7 % 2) <<< 7)

/-- `PARITY_OK(b)` (40_codec.md R168). -/
def parityOk (b : Byte) : Bool := popcount b % 2 == 0

/-- The slot number of a device address, its low nibble (10_state.md R33). -/
def slotNumber (deviceAddress : Byte) : Nat := (deviceAddress &&& 0x0F#8).toNat

/-- Whether a slot number is one of the three fixed slots (10_state.md R33). -/
def slotOk (deviceAddress : Byte) : Bool :=
  slotNumber deviceAddress == 1 || slotNumber deviceAddress == 2 || slotNumber deviceAddress == 3

/-- `SLOT_OFFSET(deviceAddress)`, in exact integer arithmetic (40_codec.md R169, 20_memory.md R87). -/
def slotOffset (deviceAddress : Byte) : Nat :=
  (23 + ((slotNumber deviceAddress : Int) - 1) * 8).toNat

/-- `POLL_LIST` (20_memory.md R88). -/
def pollList : List Byte :=
  [0x21#8, 0x22#8, 0xa3#8, 0x9c#8, 0x1d#8, 0x1e#8, 0x9f#8, 0x90#8]

end Sys2Proof.Machine
end

