-- ==== Sys2Proof/Machine/Operands.lean ====
section
/-! DEFINITION. The fields of the host-port words and the layouts of the bus frames (30_encoding.md R111 to R130). -/

namespace Sys2Proof.Machine

/-- The parity-mode bit of a transmit symbol: SPACE 0, MARK 1 (30_encoding.md R111, 92_eei_decisions.md D40).
PRESUMED, unsafe: notes/assumptions/23.md. -/
def parityBit : Parity → BitVec 1
  | .space => 0#1
  | .mark => 1#1

/-- The transmit symbols of a burst: each byte with the one parity-mode bit of the call, in order
(30_encoding.md R111, 41_transport.md R190). -/
def burstSymbols (bytes : Bytes) (p : Parity) : List (Byte × BitVec 1) :=
  bytes.map fun d => (d, parityBit p)

/-- The raw byte of a selector (30_encoding.md R129). -/
def selectorByte : Selector → Byte
  | .timer => 0x00#8
  | .comfort => 0x03#8
  | .eco => 0x04#8

/-- Whether a byte is a selector's raw byte (30_encoding.md R129). -/
def selectorOk (b : Byte) : Bool := b == 0x00#8 || b == 0x03#8 || b == 0x04#8

/-- The DIP switch byte: bit 7 set, bit 0 the ignore flag, bits 6 to 1 zero (30_encoding.md R130). -/
def dipByte (ign : Bool) : Byte := 0x80#8 ||| (BitVec.ofBool ign).setWidth 8

/-- `SEL`, bits 7:0 of a SETTINGS word (30_encoding.md R127). -/
def settingsSel (s : Settings) : Byte := s.extractLsb' 0 8

/-- `KNOB`, bits 15:8 (30_encoding.md R127). -/
def settingsKnob (s : Settings) : Byte := s.extractLsb' 8 8

/-- `MEAS`, bits 23:16 (30_encoding.md R127). -/
def settingsMeas (s : Settings) : Byte := s.extractLsb' 16 8

/-- `IGN`, bit 24 (30_encoding.md R127). -/
def settingsIgn (s : Settings) : Bool := s.getLsbD 24

/-- `VERB`, bits 26:25: 0 Off, 1 Api, 2 Serial, 3 Both (30_encoding.md R127). -/
def settingsVerb (s : Settings) : BitVec 2 := s.extractLsb' 25 2

/-- `RCE`, bit 27 (30_encoding.md R127). -/
def settingsRce (s : Settings) : Bool := s.getLsbD 27

/-- The reserved bits 31:28 (30_encoding.md R127). -/
def settingsReserved (s : Settings) : BitVec 4 := s.extractLsb' 28 4

/-- Whether a SETTINGS word is legal: `SEL` a selector byte and the reserved bits 0 (30_encoding.md R136). -/
def settingsOk (s : Settings) : Bool := selectorOk (settingsSel s) && settingsReserved s == 0#4

/-- The READINGS word of the four temperature bytes: OUT lowest (30_encoding.md R128). -/
def readingsWord (out hw mix boil : Byte) : Readings := boil ++ mix ++ hw ++ out

/-- OUT, bits 7:0 of a READINGS word (30_encoding.md R128). -/
def readingsOut (r : Readings) : Byte := r.extractLsb' 0 8

/-- HW, bits 15:8 (30_encoding.md R128). -/
def readingsHw (r : Readings) : Byte := r.extractLsb' 8 8

/-- MIX, bits 23:16 (30_encoding.md R128). -/
def readingsMix (r : Readings) : Byte := r.extractLsb' 16 8

/-- BOIL, bits 31:24 (30_encoding.md R128). -/
def readingsBoil (r : Readings) : Byte := r.extractLsb' 24 8

/-- The 33-bit response of RECEIVE_READINGS: VALID, then the READINGS word, or 0 (30_encoding.md R126). -/
def readingsResponse : Option Readings → BitVec 33
  | some r => 1#1 ++ r
  | none => 0#33

/-- `HDR_ACK` (30_encoding.md R118). -/
def hdrAckBytes (pollAddress : Byte) : Bytes := [0x06#8, pollAddress]

/-- `CMD_STATUS` (30_encoding.md R120). -/
def cmdStatusBytes (deviceAddress : Byte) : Bytes :=
  envelope [deviceAddress, 0x10#8, 0x01#8, 0x02#8, 0x10#8]

/-- `CMD_CONFIG` (30_encoding.md R122). -/
def cmdConfigBytes (deviceAddress : Byte) : Bytes :=
  envelope [deviceAddress, 0x10#8, 0x01#8, 0x06#8, 0x28#8]

/-- `CONFIG_WRITE` with bytes 5 to 44 given (30_encoding.md R124). -/
def configWriteBytes (deviceAddress : Byte) (payload : Bytes) : Bytes :=
  envelope ([deviceAddress, 0x20#8, 0x28#8, 0x06#8] ++ payload)

/-- `POLL_REPLY` with bytes 1 to 5 given (30_encoding.md R125). -/
def pollReplyBytes (body : Bytes) : Bytes := envelope body

/-- The five header bytes of `HDR_REPLY` (30_encoding.md R119). -/
def hdrReplyHeader : Bytes := [0x82#8, 0x10#8, 0xaa#8, 0x01#8, 0x00#8]

/-- The five header bytes of `STATUS_REPLY` (30_encoding.md R121). -/
def statusReplyHeader : Bytes := [0x82#8, 0x10#8, 0x20#8, 0x10#8, 0x02#8]

/-- The five header bytes of `CONFIG_REPLY` (30_encoding.md R123). -/
def configReplyHeader : Bytes := [0x82#8, 0x10#8, 0x20#8, 0x28#8, 0x06#8]

/-- `HDR_REPLY` with byte 5 given (30_encoding.md R119). -/
def hdrReplyBytes (flags : Byte) : Bytes := envelope (hdrReplyHeader.drop 1 ++ [flags])

/-- `STATUS_REPLY` with bytes 5 to 20 given (30_encoding.md R121). -/
def statusReplyBytes (payload : Bytes) : Bytes := envelope (statusReplyHeader.drop 1 ++ payload)

/-- `CONFIG_REPLY` with bytes 5 to 44 given (30_encoding.md R123). -/
def configReplyBytes (payload : Bytes) : Bytes := envelope (configReplyHeader.drop 1 ++ payload)

/-- The skip flag of a header reply, bit 0 of its byte 5 (30_encoding.md R133). -/
def headerSkip (frame : Bytes) : Bool := (frame.getD 5 0x00#8).getLsbD 0

end Sys2Proof.Machine
end

