-- ==== Sys2Proof/Machine/State.lean ====
section
/-! DEFINITION. Everything the spec gives the controller to hold (10_state.md R30), as plain data; the state after
power-up; why a step can stop. -/

namespace Sys2Proof.Machine

/-- The phase (10_state.md R52). -/
inductive Phase
  | setup
  | run
deriving DecidableEq, Repr

/-- Who takes the next step: a host agent or the engine (00_scope.md R11, R13). -/
inductive Agent
  | host
  | engine
deriving DecidableEq, Repr

/-- The micro-steps of the engine's program (42_engine.md R245). -/
inductive Label
  | e01 | e02 | e03 | e04 | e05 | e06
  | e20 | e21 | e22
  | e40 | e41 | e42 | e43 | e44 | e45 | e46 | e47 | e48
  | e99
  | x01 | x02 | x03 | x04 | x05 | x06 | x07 | x08 | x09 | x10
  | x11 | x12 | x13 | x14 | x15 | x16 | x17 | x18 | x19
deriving DecidableEq, Repr

/-- One register set of the per-device register file (10_state.md R32). -/
structure RegisterSet where
  deviceAddress : Byte
  pollAddress : Byte
  regulatorAddress : Byte
  selector : Byte
  knobSetting : Byte
  measTemp : Byte
  dipSwitch : Byte
  reducedTemp : Byte
  comfortTemp : Byte
  skipThermostatsFlag : Bool
deriving DecidableEq, Repr

/-- The three global bus flags `G` (10_state.md R44 to R47). -/
structure GlobalFlags where
  remoteControlEnabled : Bool
  apiLoggingEnabled : Bool
  serialLoggingEnabled : Bool
deriving DecidableEq, Repr

/-- The response of a host command (30_encoding.md R126). -/
inductive HostResponse
  /-- ADD_INSTANCE: the handle as an 8-bit value. -/
  | handle (h : Byte)
  /-- START and SEND_SETTINGS return nothing. -/
  | nothing
  /-- RECEIVE_READINGS: VALID and the READINGS word. -/
  | readings (r : BitVec 33)
deriving DecidableEq, Repr

/-- The value the last host command or operation returned to its caller: the model's own latch, since an
operation's result is otherwise visible only inside the engine's program. -/
inductive ReturnValue
  | nothing
  | response (r : HostResponse)
  | crc (c : Crc)
  | buffer (b : Bytes)
  | bool (b : Bool)
  | byte (b : Byte)
  | index (i : Nat)
  /-- What a TryRecv returned. -/
  | received (v : Option (BitVec 32))
deriving DecidableEq, Repr

/-- The observable events (42_engine.md R246), and the response of each host command (70_reset_and_hazards.md R345). -/
inductive Event
  | txBurst (bytes : Bytes) (p : Parity)
  | rx (n : Nat) (t : Tier) (r : Bytes)
  | drain (h : Nat) (v : Option Settings)
  | publish (r : Readings) (stored : Bool)
  | host (r : HostResponse)
deriving DecidableEq, Repr

/-- The state of the controller. -/
structure State where
  /-- The register file and the registry: set `h` at index `h`, its key the set's `pollAddress` (R31, R43, R20).
  DEDUCED, safe: notes/assumptions/12.md. -/
  devs : List RegisterSet
  /-- The global flags (R44 to R47). -/
  flags : GlobalFlags
  /-- The settings mailboxes, `SM[h]` at index `h` (R48). -/
  sm : List (Option Settings)
  /-- The readings mailbox (R49). -/
  rm : Option Readings
  /-- The phase (R52). -/
  phase : Phase
  /-- The sequencer's state register (R50). -/
  st : EngineState
  /-- The label of the current micro-step (R51). -/
  mpc : Label
  /-- The handle of the device whose exchange is in progress (R51). -/
  cur : Nat
  /-- The handle saved while a sibling's data exchange is nested (R51). -/
  outer : Nat
  /-- The nesting depth (R51). -/
  nest : Fin 2
  /-- The program's variable `h`: the register set that DX(h) or POLL_SIBLINGS(h) works on (R245, R221, R236).
  DEDUCED, safe: notes/assumptions/11.md. -/
  hdl : Nat
  /-- The data-exchange step (R51). -/
  dxStep : Nat
  /-- The index into the poll list (R51). -/
  pi : Nat
  /-- The transmission count of the current poll address (R51). -/
  rep : Nat
  /-- The handles DRAIN_SETTINGS has not yet visited (R51). -/
  pend : List Nat
  /-- The previous poll byte, or NONE (R53). -/
  prev : Option Byte
  /-- The receive buffer (R54). -/
  rxb : Bytes
  /-- The configuration frame buffer, 48 bytes (R54). -/
  cfg : Bytes
  /-- The transmit buffer (R54). -/
  txb : Bytes
  /-- The readings latch (R55). -/
  rl : Readings
  /-- The transmit-enable output (41_transport.md R191). -/
  txEn : Bool
  /-- The observable events so far, newest first (R246). -/
  events : List Event
  /-- The model's own: the last returned value. -/
  ret : ReturnValue
  /-- The model's own: host command words that host agents hold ready, oldest first (00_scope.md R11). -/
  hostIn : List HostWord
  /-- The model's own: what the bus environment will answer to the next receives (00_scope.md R11). -/
  busIn : List Bytes
  /-- The model's own: how many turns the host agents have before the engine's next micro-step (00_scope.md R13,
  70_reset_and_hazards.md R344). DESIGN CHOICE, safe: notes/assumptions/7.md. -/
  hostTurns : Nat
  /-- The model's own: how many draws have been made; every free value of `Config` that is drawn is applied to it. -/
  draws : Nat
  /-- Configuration, not state (R30): the parameters with a default, which no step writes; held here so that a claim
  about every state is a claim about every value of them. DESIGN CHOICE, safe: notes/assumptions/8.md. -/
  params : Config.Parameters
deriving DecidableEq, Repr

/-- Why a step stops with a fault. The spec gives the controller no fault (93_implementation_defined.md section 1);
each of these marks a state that no run reaches: an access outside an address space of 20_memory.md R80. All are
safe: no next state is claimed. -/
inductive Fault
  /-- Raised where a micro-step or an operation names a register set that does not exist (handle space 0..n-1). Safe. -/
  | noRegisterSet
  /-- Raised where a register set has no settings mailbox (R48). Safe. -/
  | noMailbox
  /-- Raised where the poll-list index is outside 0..7 at a use of the list (R88). Safe. -/
  | noPollEntry
  /-- Raised where a frame index is outside the frame buffer (R82). Safe. -/
  | frameIndex
deriving DecidableEq, Repr

/-- Why the machine gives no meaning to what it is asked (60_exceptions.md R306). All are safe: no state changes. -/
inductive Refusal
  /-- Raised by an arm of `exec` whose instruction has no meaning yet. Safe. -/
  | notModelled (mnemonic : String)
  /-- Raised by the fetch of a host command word with a reserved CMD value (30_encoding.md R136). Safe. -/
  | reservedCommand
  /-- Raised by the fetch of a host command word with a non-zero field that must be 0 (30_encoding.md R136). Safe. -/
  | reservedField
  /-- REFUSE_ADD_AFTER_START, raised by ADD_INSTANCE (43_registry_mailboxes.md R281). Safe. -/
  | addAfterStart
  /-- REFUSE_REGISTRY_FULL, raised by ADD_INSTANCE (R281). Safe. -/
  | registryFull
  /-- REFUSE_BAD_SLOT, raised by ADD_INSTANCE (R281). Safe. -/
  | badSlot
  /-- REFUSE_POLL_PARITY, raised by ADD_INSTANCE (R281). Safe. -/
  | pollParity
  /-- REFUSE_DUPLICATE_POLL, raised by ADD_INSTANCE (R281). Safe. -/
  | duplicatePoll
  /-- REFUSE_START_TWICE, raised by START (R282). Safe. -/
  | startTwice
  /-- REFUSE_EMPTY_REGISTRY, raised by START (R282). Safe. -/
  | emptyRegistry
  /-- REFUSE_BAD_HANDLE, raised by SEND_SETTINGS (R287), and by a mailbox operation or APPLY_SETTINGS whose handle
  operand names no register set. Safe. -/
  | badHandle
  /-- REFUSE_BAD_SETTINGS, raised by SEND_SETTINGS (R287). Safe. -/
  | badSettings
  /-- Raised by CRC_COMPUTE, CRC_INSERT and what builds on them, for a range outside the buffer
  (40_codec.md R163, R164; 92_eei_decisions.md D42). Safe. -/
  | crcRange
deriving DecidableEq, Repr

/-- The three outcomes over this machine. -/
abbrev Out := Host.Outcome State Fault Refusal

/-- The controller at power-up (70_reset_and_hazards.md R330, R333). The registers that R333 calls meaningless until
written hold the values that notes/assumptions/2.md names (DESIGN CHOICE, unsafe). The parameters are at their defaults
(00_scope.md R15). -/
def State.reset : State where
  devs := []
  flags := ⟨false, false, false⟩
  sm := []
  rm := none
  phase := .setup
  st := .setup
  mpc := .e01
  cur := 0
  outer := 0
  nest := 0
  hdl := 0
  dxStep := 1
  pi := 0
  rep := 1
  pend := []
  prev := none
  rxb := []
  cfg := List.replicate 48 0x00#8
  txb := []
  rl := 0#32
  txEn := false
  events := []
  ret := .nothing
  hostIn := []
  busIn := []
  hostTurns := 1
  draws := 0
  params := {}

end Sys2Proof.Machine
end

