-- ==== Sys2Proof/Machine/Flags.lean ====
section
/-! DEFINITION. Every flag computation of the spec (10_state.md R57): the global flags from a SETTINGS word, the DIP
switch from its ignore flag, the skip flag from a header reply. The controller has no arithmetic condition codes. -/

namespace Sys2Proof.Machine

/-- `G.remoteControlEnabled` after a SETTINGS word is applied (43_registry_mailboxes.md R288). -/
def remoteFlag (s : Settings) : Bool := settingsRce s

/-- `G.apiLoggingEnabled`: Api or Both (43_registry_mailboxes.md R288, 92_eei_decisions.md D13). -/
def apiFlag (s : Settings) : Bool := settingsVerb s == 1#2 || settingsVerb s == 3#2

/-- `G.serialLoggingEnabled`: Serial or Both (43_registry_mailboxes.md R288, 92_eei_decisions.md D13). -/
def serialFlag (s : Settings) : Bool := settingsVerb s == 2#2 || settingsVerb s == 3#2

/-- The three global flags after a SETTINGS word is applied (43_registry_mailboxes.md R288). -/
def settingsFlags (s : Settings) : GlobalFlags := ⟨remoteFlag s, apiFlag s, serialFlag s⟩

/-- The DIP switch after a SETTINGS word is applied (43_registry_mailboxes.md R288). -/
def settingsDip (s : Settings) : Byte := dipByte (settingsIgn s)

/-- The four fields of a register set that a SETTINGS word writes (43_registry_mailboxes.md R288). -/
def applyToRegisters (s : Settings) (d : RegisterSet) : RegisterSet :=
  { d with
    selector := settingsSel s
    knobSetting := settingsKnob s
    measTemp := settingsMeas s
    dipSwitch := settingsDip s }

/-- The skip flag written into a register set (42_engine.md R220, R239). -/
def withSkip (skip : Bool) (d : RegisterSet) : RegisterSet := { d with skipThermostatsFlag := skip }

/-- The setpoints written into a register set (42_engine.md R227). -/
def withSetpoints (reduced comfort : Byte) (d : RegisterSet) : RegisterSet :=
  { d with reducedTemp := reduced, comfortTemp := comfort }

end Sys2Proof.Machine
end

