-- ==== Sys2Proof/Machine/Ops.lean ====
section
/-! DEFINITION. The shared operations: the registry, the transport port, the mailboxes, the sequencer's moves, and the
abort (the controller's one exceptional control flow) with its return. -/

namespace Sys2Proof.Machine

/-! ### Register file and registry -/

/-- `n`, the number of register sets (10_state.md R31). -/
def State.count (s : State) : Nat := s.devs.length

/-- `reg(a)`, the handle whose poll address is `a`; `none` where `a` is no key (00_scope.md R20, 10_state.md R43). -/
def State.reg (s : State) (a : Byte) : Option Nat := s.devs.findIdx? fun d => d.pollAddress == a

/-- The change `f` made to register set `h`. -/
def updateDev (h : Nat) (f : RegisterSet → RegisterSet) (s : State) : State :=
  { s with devs := s.devs.modify h f }

/-- What is done with register set `h`, where it exists (20_memory.md R80). -/
def withDev (s : State) (h : Nat) (k : RegisterSet → Out) : Out :=
  match s.devs[h]? with
  | some d => k d
  | none => .fault .noRegisterSet

/-- What is done with entry `s.pi` of the poll list, where it exists (20_memory.md R88). -/
def withPollEntry (s : State) (k : Byte → Out) : Out :=
  match pollList[s.pi]? with
  | some a => k a
  | none => .fault .noPollEntry

/-! ### Turns -/

/-- Who takes the next step: a host agent while it has a turn left, then the engine (00_scope.md R13). -/
def State.turn (s : State) : Agent := if s.hostTurns = 0 then .engine else .host

/-- The turn passes: a host turn is used up, and after the engine's step a new finite number of host turns is drawn, so
that a host command may fall between any two micro-steps and the engine's next micro-step always comes (00_scope.md
R13, 60_exceptions.md R311; the weak fairness of 70_reset_and_hazards.md R344). DESIGN CHOICE, safe:
notes/assumptions/7.md. -/
def nextTurn (s : State) : State :=
  { s with
    hostTurns := if s.hostTurns = 0 then Config.hostTurns s.draws else s.hostTurns - 1
    draws := if s.hostTurns = 0 then s.draws + 1 else s.draws }

/-! ### Draws, events, returned values -/

/-- One draw made: the counter goes on (00_scope.md R23). -/
def drawn (s : State) : State := { s with draws := s.draws + 1 }

/-- An observable event recorded (42_engine.md R246). -/
def record (e : Event) (s : State) : State := { s with events := e :: s.events }

/-- The value an operation returns to its caller. -/
def returning (v : ReturnValue) (s : State) : State := { s with ret := v }

/-- A host command's response, returned and recorded (30_encoding.md R126, 70_reset_and_hazards.md R345). -/
def respond (r : HostResponse) (s : State) : State := record (.host r) (returning (.response r) s)

/-! ### The sequencer -/

/-- The state that the first action of a micro-step writes into `st` (42_engine.md R245). -/
def Label.entryState : Label → Option EngineState
  | .e01 => some .drainSettings
  | .e03 => some .checkRemoteEnabled
  | .e04 => some .dormant
  | .e05 => some .waitForPoll
  | .e20 => some .headerExchange
  | .e22 => some .dataExchange
  | .e40 => some .pollSiblings
  | _ => none

/-- The micro-step that follows in the program's text (42_engine.md R245). -/
def Label.following : Label → Label
  | .e01 => .e02 | .e02 => .e03 | .e03 => .e04 | .e04 => .e01
  | .e05 => .e06 | .e06 => .e01
  | .e20 => .e21 | .e21 => .e22 | .e22 => .x01
  | .e40 => .e41 | .e41 => .e42 | .e42 => .e43 | .e43 => .e44 | .e44 => .e45 | .e45 => .e42
  | .e46 => .e47 | .e47 => .e01 | .e48 => .e01 | .e99 => .e01
  | .x01 => .x02 | .x02 => .x03 | .x03 => .x04 | .x04 => .x05 | .x05 => .x06 | .x06 => .x07
  | .x07 => .x08 | .x08 => .x09 | .x09 => .x10 | .x10 => .x11 | .x11 => .x12 | .x12 => .x13
  | .x13 => .x14 | .x14 => .x15 | .x15 => .x16 | .x16 => .x17 | .x17 => .x18 | .x18 => .x19
  | .x19 => .e40

/-- The data-exchange step that a micro-step opens by writing `dxStep` (42_engine.md R225, R226, R229, R231). -/
def Label.opensStep : Label → Option Nat
  | .x01 => some 1
  | .x04 => some 2
  | .x08 => some 3
  | .x14 => some 4
  | _ => none

/-- `goto l`: the sequencer stands at `l`; the state that `l` enters is written into `st` at once, as the state rules
put it (42_engine.md R212, R214, R216, R220, R235, R243). DEDUCED, safe: notes/assumptions/10.md. -/
def jump (l : Label) (s : State) : State := { s with mpc := l, st := l.entryState.getD s.st }

/-- The sequencer passes its micro-step to the one that follows it, having written the `dxStep` it opens (R245). -/
def advance (s : State) : State :=
  jump s.mpc.following { s with dxStep := s.mpc.opensStep.getD s.dxStep }

/-- Whether the engine stands in the run phase at one of these micro-steps. -/
def State.standsAt (s : State) (labels : List Label) : Bool := s.phase == .run && labels.contains s.mpc

/-! ### The transport port -/

/-- `TX(s, p)`: TX_EN up, the symbols, TX_EN down, one event, and no other write (41_transport.md R190, R191). A burst of
no bytes is the model's (DESIGN CHOICE, unsafe: notes/assumptions/32.md). -/
def txBurst (bytes : Bytes) (p : Parity) (s : State) : State :=
  { record (.txBurst bytes p) s with txEn := false }

/-- A message is built for a transmit: `TXB` holds it in a data exchange and is undefined, a free value, outside one
(10_state.md R54; 42_engine.md R226, R229, R241). That `TXB` keeps it once it is sent is the model's (DESIGN CHOICE,
unsafe: notes/assumptions/31.md). -/
def buildFrame (bytes : Bytes) (s : State) : State :=
  { drawn s with txb := if s.st = .dataExchange then bytes else Config.freeTxb s.draws }

/-- What the environment answers to the next receive: what it holds ready, else a free string (41_transport.md R193).
DESIGN CHOICE, safe: notes/assumptions/5.md. -/
def nextAnswer (s : State) : Bytes × State :=
  match s.busIn with
  | r :: q => (r, { s with busIn := q })
  | [] => (Config.busAnswer s.draws, drawn s)

/-- The bytes `RX(n, t)` returns: at most `n` of the answer (41_transport.md R193). -/
def received (n : Nat) (s : State) : Bytes := (nextAnswer s).1.take n

/-- `RX(n, t)`: the bytes go to `RXB`, one event (41_transport.md R193), for every `n`, also one that R193 does not admit
(DESIGN CHOICE, unsafe: notes/assumptions/32.md). -/
def receive (n : Nat) (t : Tier) (s : State) : State :=
  record (.rx n t (received n s)) { (nextAnswer s).2 with rxb := received n s }

/-- A burst of the engine's program: where the sequencer stands at a micro-step that sends this frame, it passes it
(42_engine.md R245). DESIGN CHOICE, safe: notes/assumptions/14.md. -/
def sendFrame (labels : List Label) (bytes : Bytes) (p : Parity) (s : State) : State :=
  if s.standsAt labels then advance (txBurst bytes p s) else txBurst bytes p s

/-- A message of the engine's program: built, and sent with SPACE (42_engine.md R226, R229, R241). -/
def sendMessage (labels : List Label) (bytes : Bytes) (s : State) : State :=
  sendFrame labels bytes .space (buildFrame bytes s)

/-- The transmit symbols that an event puts on the wire (41_transport.md R190). -/
def Event.symbols : Event → List (Byte × BitVec 1)
  | .txBurst bytes p => burstSymbols bytes p
  | .rx _ _ _ => []
  | .drain _ _ => []
  | .publish _ _ => []
  | .host _ => []

/-! ### The abort -/

/-- `raise Abort`: the sequencer goes to E99, everything written so far is kept (60_exceptions.md R300, R304). -/
def raiseAbort (s : State) : State := jump .e99 s

/-- `RXB`, `CFG`, `TXB` and `RL` become meaningless (60_exceptions.md R304, 93_implementation_defined.md U22): free
values, `RXB` and `CFG` within the sizes of 10_state.md R54, `TXB` of any length, as the spec gives it no size.
DESIGN CHOICE, safe: notes/assumptions/9.md. -/
def forgetBuffers (s : State) : State :=
  { drawn s with
    rxb := (Config.freeRxb s.draws).take 48
    cfg := List.ofFn (Config.freeCfg s.draws)
    txb := Config.freeTxb s.draws
    rl := Config.freeRl s.draws }

/-- E99, the abort's entry and its return in one: `nest <- 0`, the partial exchange is discarded, nothing is rolled
back, and the next cycle starts (42_engine.md R235, 60_exceptions.md R304, R305). The label of the abort is not kept
(R300; DESIGN CHOICE, safe: notes/assumptions/16.md). -/
def abortEntry (s : State) : State := jump .e01 { forgetBuffers s with nest := 0 }

/-- What a checked receive comes to: the frame is there, or the exchange aborts. One kind of abort, no sub-kinds
(60_exceptions.md R300). -/
inductive Checked
  | ok (s : State)
  | abort (s : State)
deriving DecidableEq, Repr

/-- The outcome of a checked receive: what follows it, or the abort raised. -/
def Checked.andThen (c : Checked) (k : State → State) : Out :=
  match c with
  | .ok s => .next (k s)
  | .abort s => .next (raiseAbort s)

/-- Receive an acknowledgement: too short aborts, then any other string (42_engine.md R222, R223, R309). -/
def expectAck (expected : AckLen) (s : State) : Checked :=
  let n := (ackBytes expected).length
  let t := receive n .long s
  if t.rxb.length < n then .abort t
  else if verifyReply t.rxb expected then .ok t else .abort t

/-- `EXPECT_MSG(L, hdr)`: length, envelope, header, in this order (42_engine.md R224, R309). -/
def expectMsg (length : Nat) (header : Bytes) (s : State) : Checked :=
  let t := receive length .long s
  if t.rxb.length < length then .abort t
  else if !verifyMessage t.rxb length then .abort t
  else if t.rxb.take 5 ≠ header then .abort t
  else .ok t

/-- `HANDSHAKE` (42_engine.md R222). -/
def handshake (s : State) : Checked :=
  expectAck .two (txBurst [0x90#8] .mark (txBurst [0x06#8] .space s))

/-! ### Mailboxes -/

/-- `TrySend` on one slot (43_registry_mailboxes.md R285). -/
def slotSend (slot : Option (BitVec 32)) (v : BitVec 32) : Option (BitVec 32) :=
  match slot with
  | none => some v
  | some w => some w

/-- `TrySend` on the readings mailbox (43_registry_mailboxes.md R285). -/
def sendReadings (v : Readings) (s : State) : State := { s with rm := slotSend s.rm v }

/-- `TryRecv` on the readings mailbox: the slot is empty afterwards (43_registry_mailboxes.md R286). -/
def takeReadings (s : State) : State := { s with rm := none }

/-- `TrySend` on settings mailbox `h` (43_registry_mailboxes.md R285). -/
def sendSettingsTo (h : Nat) (v : Settings) (s : State) : State :=
  { s with sm := s.sm.modify h fun slot => slotSend slot v }

/-- `TryRecv` on settings mailbox `h`: the slot is empty afterwards (43_registry_mailboxes.md R286). -/
def takeSettings (h : Nat) (s : State) : State := { s with sm := s.sm.set h none }

/-- `APPLY_SETTINGS(h, v)` (43_registry_mailboxes.md R288). -/
def applySettingsTo (h : Nat) (v : Settings) (s : State) : State :=
  { updateDev h (applyToRegisters v) s with flags := settingsFlags v }

/-- `PUBLISH_READINGS(v)`: a try-send to the readings mailbox and its event (43_registry_mailboxes.md R292,
42_engine.md R246). -/
def publish (v : Readings) (s : State) : State :=
  record (.publish v s.rm.isNone) (sendReadings v s)

end Sys2Proof.Machine
end

