-- ==== Sys2Proof/Machine/BusTx.lean ====
section
/-! DEFINITION. The bus frames the controller sends: one burst in the frame's parity mode (92_eei_decisions.md D16).
Where the sequencer stands at a micro-step that sends the frame, it passes that micro-step (42_engine.md R245). -/

namespace Sys2Proof.Machine

/-- `POLL_TX`: a poll byte with MARK (42_engine.md R237; E42). -/
def sendPoll (a : Byte) (s : State) : State := sendFrame [.e42] [a] .mark s

/-- `HS_ACK`: 06 with SPACE (42_engine.md R222; X01, X08, X14). -/
def sendHsAck (s : State) : State := sendFrame [.x01, .x08, .x14] [0x06#8] .space s

/-- `HS_POLL`: 90 with MARK (42_engine.md R222; X02, X09, X15). -/
def sendHsPoll (s : State) : State := sendFrame [.x02, .x09, .x15] [0x90#8] .mark s

/-- `HDR_ACK`: 06 and the poll address, with SPACE (42_engine.md R218; E20). -/
def sendHdrAck (pollAddress : Byte) (s : State) : State :=
  sendFrame [.e20] (hdrAckBytes pollAddress) .space s

/-- `CMD_STATUS` with SPACE (42_engine.md R226; X04). -/
def sendCmdStatus (deviceAddress : Byte) (s : State) : State :=
  sendMessage [.x04] (cmdStatusBytes deviceAddress) s

/-- `CMD_CONFIG` with SPACE (42_engine.md R229; X11). -/
def sendCmdConfig (deviceAddress : Byte) (s : State) : State :=
  sendMessage [.x11] (cmdConfigBytes deviceAddress) s

/-- A configuration write, straight from `CFG`, with SPACE (42_engine.md R234; X18). -/
def sendConfigWrite (frame : Bytes) (s : State) : State := sendFrame [.x18] frame .space s

/-- A poll reply with SPACE (42_engine.md R241; E46). -/
def sendPollReply (body : Bytes) (s : State) : State := sendMessage [.e46] (pollReplyBytes body) s

/-- POLL_TX (42_engine.md R237). -/
def execPollTx (a : Byte) (s : State) : Out := .next (sendPoll a s)

/-- HS_ACK (42_engine.md R222). -/
def execHsAck (s : State) : Out := .next (sendHsAck s)

/-- HS_POLL (42_engine.md R222). -/
def execHsPoll (s : State) : Out := .next (sendHsPoll s)

/-- HDR_ACK (42_engine.md R218). -/
def execHdrAck (pollAddress : Byte) (s : State) : Out := .next (sendHdrAck pollAddress s)

/-- CMD_STATUS (42_engine.md R226). -/
def execCmdStatus (deviceAddress : Byte) (s : State) : Out := .next (sendCmdStatus deviceAddress s)

/-- CMD_CONFIG (42_engine.md R229). -/
def execCmdConfig (deviceAddress : Byte) (s : State) : Out := .next (sendCmdConfig deviceAddress s)

/-- CONFIG_WRITE (42_engine.md R234). -/
def execConfigWrite (deviceAddress : Byte) (payload : Bytes) (s : State) : Out :=
  .next (sendConfigWrite (configWriteBytes deviceAddress payload) s)

/-- POLL_REPLY (42_engine.md R241). -/
def execPollReply (body : Bytes) (s : State) : Out := .next (sendPollReply body s)

end Sys2Proof.Machine
end

