-- ==== Sys2Proof/Machine/Program.lean ====
section
/-! DEFINITION. The engine's program, one definition per micro-step or group of like micro-steps
(42_engine.md R245), and the choice of micro-step by its label. -/

namespace Sys2Proof.Machine

/-! ### Idle states and poll detection -/

/-- `x` put into `ys` at place `i`, or last where `ys` is shorter. -/
def insertAt (i x : Nat) (ys : List Nat) : List Nat :=
  match ys with
  | [] => [x]
  | y :: rest =>
    match i with
    | 0 => x :: y :: rest
    | j + 1 => y :: insertAt j x rest

/-- The handles below `n` in an order that `place` chooses; every order is some `place`'s (R213). -/
def drainOrder (place : Nat → Nat) : Nat → List Nat
  | 0 => []
  | n + 1 => insertAt (place n) n (drainOrder place n)

/-- E01: a fresh drain order (R212, R213). -/
def microDrainBegin (s : State) : State :=
  advance { drawn s with pend := drainOrder (Config.drainPlace s.draws) s.count }

/-- E02 for one handle: the mailbox is tried, a value found is applied (R212). -/
def drainOne (h : Nat) (v : Option Settings) (s : State) : State :=
  match v with
  | some w => applySettingsTo h w (takeSettings h (record (.drain h (some w)) s))
  | none => record (.drain h none) s

/-- E02 for one handle, then the next handle, or E03 after the last (R212, R245). -/
def drainStep (h : Nat) (rest : List Nat) (v : Option Settings) (s : State) : State :=
  let t := drainOne h v { s with pend := rest }
  if rest = [] then jump .e03 t else t

/-- E02 (R212). -/
def microDrain (s : State) : Out :=
  match s.pend with
  | [] => .next (jump .e03 s)
  | h :: rest =>
    withDev s h fun _ =>
      match s.sm[h]? with
      | some v => .next (drainStep h rest v s)
      | none => .fault .noMailbox

/-- E03 (R214). -/
def microCheck (s : State) : State :=
  if s.flags.remoteControlEnabled then jump .e05 s else jump .e04 { s with prev := none }

/-- E04: the pause is not modelled (R215, R344). -/
def microDormant (s : State) : State := jump .e01 s

/-- E05: one receive with the short tier (R216). -/
def microPollReceive (s : State) : State := jump .e06 (receive 1 .short s)

/-- E06, the address filter, for the received string (R216, R217). -/
def pollFilter (r : Bytes) (s : State) : State :=
  match r with
  | [] => jump .e01 { s with prev := if s.params.prevClearedOnTimeout then none else s.prev }
  | b :: _ =>
    match s.reg b with
    | some h =>
      if s.prev = some b then jump .e20 { s with prev := none, cur := h }
      else jump .e01 { s with prev := some b }
    | none => jump .e01 { s with prev := some b }

/-- E06 (R216). -/
def microPollFilter (s : State) : State := pollFilter s.rxb s

/-! ### Header exchange -/

/-- E20 (R218). -/
def microHdrAck (s : State) : Out :=
  withDev s s.cur fun d => .next (sendHdrAck d.pollAddress s)

/-- E21 after its checks: the skip flag of the selected device (R220). -/
def headerAccepted (s : State) : State :=
  advance (updateDev s.cur (withSkip (headerSkip s.rxb)) s)

/-- E21 (R219, R220). -/
def microHdrReply (s : State) : Out :=
  withDev s s.cur fun _ => (expectMsg 9 hdrReplyHeader s).andThen headerAccepted

/-! ### Data exchange -/

/-- E22: the data exchange of the selected device is called (R220, R221). -/
def microDataEnter (s : State) : State := advance { s with nest := 0, hdl := s.cur }

/-- X03, X10, X16 (R222). -/
def microExpectAck2 (s : State) : Out := (expectAck .two s).andThen advance

/-- X05, X12 (R223). -/
def microExpectAck1 (s : State) : Out := (expectAck .one s).andThen advance

/-- X04 (R226). -/
def microCmdStatus (s : State) : Out :=
  withDev s s.hdl fun d => .next (sendCmdStatus d.deviceAddress s)

/-- X06 (R226). -/
def microStatusReply (s : State) : Out := (expectMsg 24 statusReplyHeader s).andThen advance

/-- The READINGS word of a status reply: its bytes 10, 11, 14, 15 (R227, 30_encoding.md R121). -/
def statusReadings (r : Bytes) : Readings :=
  readingsWord (r.getD 10 0x00#8) (r.getD 11 0x00#8) (r.getD 14 0x00#8) (r.getD 15 0x00#8)

/-- X07: the readings latched, the setpoints stashed, the readings published (R227, R228). `RL` keeps the published
readings, though R55 holds it only until then (DESIGN CHOICE, unsafe: notes/assumptions/29.md). -/
def takeStatus (s : State) : State :=
  advance (publish (statusReadings s.rxb)
    (updateDev s.hdl (withSetpoints (s.rxb.getD 16 0x00#8) (s.rxb.getD 20 0x00#8))
      { s with rl := statusReadings s.rxb }))

/-- X07; the frame received by X06 has 24 bytes (R227, 20_memory.md R82). -/
def microTakeStatus (s : State) : Out :=
  withDev s s.hdl fun _ =>
    if s.rxb.length ≤ 20 then .fault .frameIndex else .next (takeStatus s)

/-- X11 (R229). -/
def microCmdConfig (s : State) : Out :=
  withDev s s.hdl fun d => .next (sendCmdConfig d.deviceAddress s)

/-- X13 (R230). -/
def microConfigReply (s : State) : Out :=
  (expectMsg 48 configReplyHeader s).andThen fun t => advance { t with cfg := t.rxb }

/-- The patch of X17 on the received configuration frame (R232). -/
def patchConfig (d : RegisterSet) (cfg : Bytes) : Bytes :=
  let o := slotOffset d.deviceAddress
  ((((((((cfg.set 1 d.deviceAddress).set 5 d.measTemp).set 6 d.knobSetting).set 10 d.selector).set 11
    d.dipSwitch).set o d.comfortTemp).set (o + 1) d.comfortTemp).set (o + 2) d.reducedTemp)

/-- X17: the patch and the new CRC over bytes 1 to 44 (R232, R233, 90_conflicts.md C1). -/
def microPatch (s : State) : Out :=
  withDev s s.hdl fun d =>
    if s.cfg.length ≠ 48 ∨ 48 ≤ slotOffset d.deviceAddress + 2 then .fault .frameIndex
    else
      match crcInsert (patchConfig d s.cfg) 1 44 with
      | some frame => .next (advance { s with cfg := frame })
      | none => .fault .frameIndex

/-- X18 (R234). -/
def microConfigWrite (s : State) : State := sendConfigWrite s.cfg s

/-- `return OK` of DX(h): `CFG` and `TXB` are undefined outside a data exchange, and the program goes on at E40, or
at E48 where the exchange was nested (R221, R245, 10_state.md R54). They take free values, `TXB` one of any length
(DESIGN CHOICE, safe: notes/assumptions/9.md). -/
def returnFromExchange (s : State) : State :=
  jump (if s.nest = 0 then .e40 else .e48)
    { drawn s with
      cfg := List.ofFn (Config.freeCfg s.draws)
      txb := Config.freeTxb s.draws }

/-- X19 (R234). -/
def microFinalAck (s : State) : Out := (expectAck .one s).andThen returnFromExchange

/-! ### Poll siblings -/

/-- E40: the start index is the slot number (R236). -/
def microPollEnter (s : State) : Out :=
  withDev s s.cur fun d => .next (advance { s with hdl := s.cur, pi := slotNumber d.deviceAddress })

/-- E41: the list is exhausted, or its next address is polled (R237, R242). -/
def microPollNext (s : State) : Out :=
  if s.pi = 8 then .next (jump .e01 s)
  else withPollEntry s fun _ => .next (advance { s with rep := 1 })

/-- E42 (R237). -/
def microPollSend (s : State) : Out := withPollEntry s fun a => .next (sendPoll a s)

/-- The sibling condition for address `a` in the poll phase of the device with registers `d` (R238). -/
def siblingOf (a : Byte) (d : RegisterSet) (s : State) : Option Nat :=
  if s.rep = 2 ∧ (s.params.skipGatesSiblingSim = true → d.skipThermostatsFlag = true) then
    match s.reg a with
    | some g => if g = s.hdl then none else some g
    | none => none
  else none

/-- The sibling's skip flag is cleared and its data exchange is called, nested; the fabricated strings are internal
(R239, R244). -/
def simulateSibling (g : Nat) (s : State) : State :=
  jump .x01 { updateDev g (withSkip false) s with outer := s.hdl, nest := 1, st := .dataExchange, hdl := g }

/-- E43 (R238, R239, 60_exceptions.md R310). -/
def microSibling (s : State) : Out :=
  withPollEntry s fun a =>
    withDev s s.hdl fun d =>
      match siblingOf a d s with
      | some g => .next (simulateSibling g s)
      | none => .next (advance s)

/-- E44: the listen window (R240). -/
def microListen (s : State) : State := advance (receive 2 .short s)

/-- E45: the genuine acknowledgement, or the next transmission, or the next address (R237, R240). -/
def microListenCheck (s : State) : State :=
  if verifyReply s.rxb .two then jump .e46 s
  else if s.rep + 1 ≤ 5 then jump .e42 { s with rep := s.rep + 1 }
  else jump .e41 { s with rep := s.rep + 1, pi := s.pi + 1 }

/-- E46 (R241). -/
def microPollReply (s : State) : Out :=
  withDev s s.hdl fun d =>
    .next (sendPollReply (Config.pollReplyBody d.deviceAddress d.skipThermostatsFlag) s)

/-- E47: the final acknowledgement, then the cycle ends (R241, R243). -/
def microPollFinal (s : State) : Out := (expectAck .one s).andThen (jump .e01)

/-- E48: the nested exchange is over, and with it the poll phase (R239, R243). -/
def microNestedEnd (s : State) : State := jump .e01 { s with nest := 0 }

/-! ### The program -/

/-- The micro-step at the sequencer's label (R245). -/
def microStep (s : State) : Out :=
  match s.mpc with
  | .e01 => .next (microDrainBegin s)
  | .e02 => microDrain s
  | .e03 => .next (microCheck s)
  | .e04 => .next (microDormant s)
  | .e05 => .next (microPollReceive s)
  | .e06 => .next (microPollFilter s)
  | .e20 => microHdrAck s
  | .e21 => microHdrReply s
  | .e22 => .next (microDataEnter s)
  | .e40 => microPollEnter s
  | .e41 => microPollNext s
  | .e42 => microPollSend s
  | .e43 => microSibling s
  | .e44 => .next (microListen s)
  | .e45 => .next (microListenCheck s)
  | .e46 => microPollReply s
  | .e47 => microPollFinal s
  | .e48 => .next (microNestedEnd s)
  | .e99 => .next (abortEntry s)
  | .x01 => .next (sendHsAck s)
  | .x02 => .next (sendHsPoll s)
  | .x03 => microExpectAck2 s
  | .x04 => microCmdStatus s
  | .x05 => microExpectAck1 s
  | .x06 => microStatusReply s
  | .x07 => microTakeStatus s
  | .x08 => .next (sendHsAck s)
  | .x09 => .next (sendHsPoll s)
  | .x10 => microExpectAck2 s
  | .x11 => microCmdConfig s
  | .x12 => microExpectAck1 s
  | .x13 => microConfigReply s
  | .x14 => .next (sendHsAck s)
  | .x15 => .next (sendHsPoll s)
  | .x16 => microExpectAck2 s
  | .x17 => microPatch s
  | .x18 => .next (microConfigWrite s)
  | .x19 => microFinalAck s

/-- The micro-steps of each engine state, its entry first; E99 belongs to whatever exchange aborts (R245). -/
def stateLabels : EngineState → List Label
  | .setup => []
  | .drainSettings => [.e01, .e02]
  | .checkRemoteEnabled => [.e03]
  | .dormant => [.e04]
  | .waitForPoll => [.e05, .e06]
  | .headerExchange => [.e20, .e21]
  | .dataExchange =>
    [.e22, .x01, .x02, .x03, .x04, .x05, .x06, .x07, .x08, .x09, .x10, .x11, .x12, .x13, .x14, .x15, .x16,
      .x17, .x18, .x19]
  | .pollSiblings => [.e40, .e41, .e42, .e43, .e44, .e45, .e46, .e47, .e48]

/-- Where the sequencer stands when it works in engine state `q`: at its present micro-step if that is one of `q`'s
(or the abort's), else at `q`'s entry. The first action of the micro-step, `st <- q`, is done here (R245). -/
def enterState (q : EngineState) (entry : Label) (s : State) : State :=
  if s.mpc = .e99 ∨ s.mpc ∈ stateLabels q then jump s.mpc s else jump entry s

/-- One micro-step in engine state `q`; the engine takes no step in the setup phase (R245, 10_state.md R52).
DESIGN CHOICE, safe: notes/assumptions/13.md. -/
def engineStep (q : EngineState) (entry : Label) (s : State) : Out :=
  if s.phase = .setup then .next s else microStep (enterState q entry s)

end Sys2Proof.Machine
end

