-- ==== Sys2Proof/Machine/BusRx.lean ====
section
/-! DEFINITION. The bus frames the controller receives. A frame that arrives while the engine stands at a receive is
the answer of that receive (41_transport.md R193); what the engine makes of it is the micro-step's rule. -/

namespace Sys2Proof.Machine

/-- The micro-steps that receive (42_engine.md R245). -/
def receiveLabels : List Label :=
  [.e05, .e21, .e44, .e47, .x03, .x05, .x06, .x10, .x12, .x13, .x16, .x19]

/-- A string that arrives while no receive is open is not delivered, or is delivered to a later one: which, is a free
value (41_transport.md R195; DESIGN CHOICE, safe: notes/assumptions/6.md). -/
def arriveLate (r : Bytes) (s : State) : State :=
  { drawn s with busIn := if Config.heldForLater s.draws then s.busIn ++ [r] else s.busIn }

/-- The receive's micro-step on the string `r`; the check of E05's and of E44's string is a micro-step of its own
(E06, E45) and is made too (42_engine.md R216, R240). -/
def answerReceive (r : Bytes) (s : State) : Out :=
  let t := { s with busIn := r :: s.busIn }
  match s.mpc with
  | .e05 => .next (microPollFilter (microPollReceive (jump .e05 t)))
  | .e44 => .next (microListenCheck (microListen t))
  | _ => microStep t

/-- A string arrives on the bus (41_transport.md R193, R195). DESIGN CHOICE, safe: notes/assumptions/15.md. -/
def arrive (r : Bytes) (s : State) : Out :=
  if s.standsAt receiveLabels then answerReceive r s else .next (arriveLate r s)

/-- POLL_RX (42_engine.md R216). -/
def execPollRx (b : Byte) (s : State) : Out := arrive [b] s

/-- ACK1 (42_engine.md R223). -/
def execAck1 (s : State) : Out := arrive (ackBytes .one) s

/-- ACK2 (42_engine.md R222, R240). -/
def execAck2 (s : State) : Out := arrive (ackBytes .two) s

/-- HDR_REPLY (42_engine.md R219, R220). -/
def execHdrReply (flags : Byte) (s : State) : Out := arrive (hdrReplyBytes flags) s

/-- STATUS_REPLY (42_engine.md R226). -/
def execStatusReply (payload : Bytes) (s : State) : Out := arrive (statusReplyBytes payload) s

/-- CONFIG_REPLY (42_engine.md R230). -/
def execConfigReply (payload : Bytes) (s : State) : Out := arrive (configReplyBytes payload) s

end Sys2Proof.Machine
end

