-- ==== Sys2Proof/Machine/Codec.lean ====
section
/-! DEFINITION. The operations of the framing and CRC unit (40_codec.md R163 to R169): pure, their result returned,
nothing else written (R170). -/

namespace Sys2Proof.Machine

/-- CRC_COMPUTE (40_codec.md R163). -/
def execCrcCompute (buffer : Bytes) (start length : Nat) (s : State) : Out :=
  match crcCompute buffer start length with
  | some c => .next (returning (.crc c) s)
  | none => .refused .crcRange

/-- CRC_INSERT (40_codec.md R164). -/
def execCrcInsert (buffer : Bytes) (start length : Nat) (s : State) : Out :=
  match crcInsert buffer start length with
  | some b => .next (returning (.buffer b) s)
  | none => .refused .crcRange

/-- VERIFY_MESSAGE (40_codec.md R165). -/
def execVerifyMessage (buffer : Bytes) (length : Nat) (s : State) : Out :=
  .next (returning (.bool (verifyMessage buffer length)) s)

/-- VERIFY_REPLY (40_codec.md R166). -/
def execVerifyReply (buffer : Bytes) (expected : AckLen) (s : State) : Out :=
  .next (returning (.bool (verifyReply buffer expected)) s)

/-- BUILD_MESSAGE (40_codec.md R167). -/
def execBuildMessage (body : Bytes) (length : Nat) (s : State) : Out :=
  match buildMessage body length with
  | some m => .next (returning (.buffer m) s)
  | none => .refused .crcRange

/-- EVEN_PARITY_ADDR (40_codec.md R168). -/
def execEvenParityAddr (a7 : BitVec 7) (s : State) : Out :=
  .next (returning (.byte (evenParityAddr a7)) s)

/-- PARITY_OK (40_codec.md R168). -/
def execParityOk (b : Byte) (s : State) : Out := .next (returning (.bool (parityOk b)) s)

/-- SLOT_OFFSET (40_codec.md R169). -/
def execSlotOffset (deviceAddress : Byte) (s : State) : Out :=
  .next (returning (.index (slotOffset deviceAddress)) s)

end Sys2Proof.Machine
end

