-- ==== Sys2Proof/Machine/Engine.lean ====
section
/-! DEFINITION. The engine states: one micro-step of the state's part of the program (42_engine.md R245). -/

namespace Sys2Proof.Machine

/-- DRAIN_SETTINGS: E01, E02 (42_engine.md R212, R213). -/
def execDrainSettings (s : State) : Out := engineStep .drainSettings .e01 s

/-- CHECK_REMOTE_ENABLED: E03 (42_engine.md R214). -/
def execCheckRemoteEnabled (s : State) : Out := engineStep .checkRemoteEnabled .e03 s

/-- DORMANT: E04 (42_engine.md R215). -/
def execDormant (s : State) : Out := engineStep .dormant .e04 s

/-- WAIT_FOR_POLL: E05, E06 (42_engine.md R216, R217). -/
def execWaitForPoll (s : State) : Out := engineStep .waitForPoll .e05 s

/-- HEADER_EXCHANGE: E20, E21 (42_engine.md R218 to R220). -/
def execHeaderExchange (s : State) : Out := engineStep .headerExchange .e20 s

/-- DATA_EXCHANGE: E22, X01 to X19 (42_engine.md R221 to R234). -/
def execDataExchange (s : State) : Out := engineStep .dataExchange .e22 s

/-- POLL_SIBLINGS: E40 to E48 (42_engine.md R236 to R243). -/
def execPollSiblings (s : State) : Out := engineStep .pollSiblings .e40 s

end Sys2Proof.Machine
end

