-- ==== Sys2Proof/Machine/HostPort.lean ====
section
/-! DEFINITION. The host commands ADD_INSTANCE, START, SEND_SETTINGS and RECEIVE_READINGS
(43_registry_mailboxes.md R280 to R291). A refused command changes no state (60_exceptions.md R306). -/

namespace Sys2Proof.Machine

/-- The register set that ADD_INSTANCE creates: the three operands, every other field a draw (R280, R331). -/
def newRegisterSet (deviceAddr pollAddr regulatorAddr : Byte) (k : Nat) : RegisterSet where
  deviceAddress := deviceAddr
  pollAddress := pollAddr
  regulatorAddress := regulatorAddr
  selector := selectorByte (Config.newSelector k)
  knobSetting := Config.newKnobSetting k
  measTemp := Config.newMeasTemp k
  dipSwitch := dipByte (Config.newIgnore k)
  reducedTemp := Config.newReducedTemp k
  comfortTemp := Config.newComfortTemp k
  skipThermostatsFlag := Config.newSkip k

/-- The registration checks, in the rule's order (R281). -/
def registrationRefusal (deviceAddr pollAddr : Byte) (s : State) : Option Refusal :=
  if s.phase ≠ .setup then some .addAfterStart
  else if s.count = Config.nDevMax then some .registryFull
  else if !slotOk deviceAddr then some .badSlot
  else if !parityOk pollAddr then some .pollParity
  else if (s.reg pollAddr).isSome then some .duplicatePoll
  else none

/-- The new register set and its empty settings mailbox (R280). -/
def register (d : RegisterSet) (s : State) : State :=
  { drawn s with devs := s.devs ++ [d], sm := s.sm ++ [none] }

/-- `ADD_INSTANCE(deviceAddr, pollAddr, regulatorAddr)` (R280). -/
def execAddInstance (deviceAddr pollAddr regulatorAddr : Byte) (s : State) : Out :=
  match registrationRefusal deviceAddr pollAddr s with
  | some r => .refused r
  | none =>
    .next (respond (.handle (BitVec.ofNat 8 s.count))
      (register (newRegisterSet deviceAddr pollAddr regulatorAddr s.draws) s))

/-- The run phase entered: flags drawn, `prev` NONE, `nest` 0, the engine at E01 (R282, R332). -/
def enterRun (s : State) : State :=
  jump .e01
    { drawn s with
      phase := .run
      flags := ⟨Config.startRemote s.draws, Config.startApi s.draws, Config.startSerial s.draws⟩
      prev := none
      nest := 0 }

/-- `START` (R282). -/
def execStart (s : State) : Out :=
  if s.phase ≠ .setup then .refused .startTwice
  else if s.count = 0 then .refused .emptyRegistry
  else .next (respond .nothing (enterRun s))

/-- `SEND_SETTINGS(h, s)`; a drop into a full mailbox is not reported (R287). -/
def execSendSettings (handle : Byte) (v : Settings) (s : State) : Out :=
  if s.count ≤ handle.toNat then .refused .badHandle
  else if !settingsOk v then .refused .badSettings
  else if s.sm.length ≤ handle.toNat then .fault .noMailbox
  else .next (respond .nothing (sendSettingsTo handle.toNat v s))

/-- `RECEIVE_READINGS()` (R291). -/
def execReceiveReadings (s : State) : Out :=
  .next (respond (.readings (readingsResponse s.rm)) (takeReadings s))

end Sys2Proof.Machine
end

