-- ==== Sys2Proof/Machine/Mailboxes.lean ====
section
/-! DEFINITION. The mailbox operations and their engine-side users (43_registry_mailboxes.md R285, R286, R288,
R292). -/

namespace Sys2Proof.Machine

/-- TRY_SEND: stores into an empty slot, discards otherwise, returns nothing (43_registry_mailboxes.md R285). -/
def execTrySend (m : Mailbox) (v : BitVec 32) (s : State) : Out :=
  match m with
  | .readings => .next (sendReadings v s)
  | .settings h =>
    if s.sm.length ≤ h then .refused .badHandle
    else .next (sendSettingsTo h v s)

/-- TRY_RECV: returns what the slot holds and empties it (43_registry_mailboxes.md R286). -/
def execTryRecv (m : Mailbox) (s : State) : Out :=
  match m with
  | .readings => .next (returning (.received s.rm) (takeReadings s))
  | .settings h =>
    match s.sm[h]? with
    | some v => .next (returning (.received v) (takeSettings h s))
    | none => .refused .badHandle

/-- APPLY_SETTINGS (43_registry_mailboxes.md R288). -/
def execApplySettings (h : Nat) (v : Settings) (s : State) : Out :=
  if s.count ≤ h then .refused .badHandle else .next (applySettingsTo h v s)

/-- PUBLISH_READINGS (43_registry_mailboxes.md R292). -/
def execPublishReadings (r : Readings) (s : State) : Out := .next (publish r s)

end Sys2Proof.Machine
end

