-- ==== Sys2Proof/Machine/Pseudo.lean ====
section
/-! DEFINITION. The pseudo-operations: the sequence each abbreviates (30_encoding.md R140). The sequencer's move past
them is their caller's; a failed check raises the abort (60_exceptions.md R300). -/

namespace Sys2Proof.Machine

/-- HANDSHAKE (42_engine.md R222). -/
def execHandshake (s : State) : Out := (handshake s).andThen id

/-- EXPECT_ACK1 (42_engine.md R223). -/
def execExpectAck1 (s : State) : Out := (expectAck .one s).andThen id

/-- EXPECT_MSG, the message returned (42_engine.md R224). -/
def execExpectMsg (length : Nat) (header : Bytes) (s : State) : Out :=
  (expectMsg length header s).andThen fun t => returning (.buffer t.rxb) t

/-- SEND_MSG (30_encoding.md R140). -/
def execSendMsg (body : Bytes) (length : Nat) (s : State) : Out :=
  match buildMessage body length with
  | some m => .next (txBurst m .space (buildFrame m s))
  | none => .refused .crcRange

end Sys2Proof.Machine
end

