-- ==== Sys2Proof/Machine/Transport.lean ====
section
/-! DEFINITION. The operations of the transport port (41_transport.md R190, R193). -/

namespace Sys2Proof.Machine

/-- TX (41_transport.md R190). The empty string, which R190 does not admit, is sent as a burst of no symbols (DESIGN
CHOICE, unsafe: notes/assumptions/32.md). -/
def execTx (bytes : Bytes) (parity : Parity) (s : State) : Out := .next (txBurst bytes parity s)

/-- RX, its bytes returned (41_transport.md R193). A length that R193 does not admit is received in the same way, and
`RXB` may then hold more than 48 bytes (DESIGN CHOICE, unsafe: notes/assumptions/32.md). -/
def execRx (n : Nat) (tier : Tier) (s : State) : Out :=
  .next (returning (.buffer (received n s)) (receive n tier s))

end Sys2Proof.Machine
end

