-- ==== Sys2Proof/Machine/Dispatch.lean ====
section
/-! DEFINITION. The meaning of each instruction, one arm per constructor. -/

namespace Sys2Proof.Machine

def exec (i : Instr) (s : State) : Host.Outcome State Fault Refusal :=
  match i with
  | .addInstance d p r => Sys2Proof.Machine.execAddInstance d p r s
  | .start => Sys2Proof.Machine.execStart s
  | .sendSettings h v => Sys2Proof.Machine.execSendSettings h v s
  | .receiveReadings => Sys2Proof.Machine.execReceiveReadings s
  | .pollTx a => Sys2Proof.Machine.execPollTx a s
  | .hsAck => Sys2Proof.Machine.execHsAck s
  | .hsPoll => Sys2Proof.Machine.execHsPoll s
  | .hdrAck a => Sys2Proof.Machine.execHdrAck a s
  | .cmdStatus d => Sys2Proof.Machine.execCmdStatus d s
  | .cmdConfig d => Sys2Proof.Machine.execCmdConfig d s
  | .configWrite d p => Sys2Proof.Machine.execConfigWrite d p s
  | .pollReply b => Sys2Proof.Machine.execPollReply b s
  | .pollRx b => Sys2Proof.Machine.execPollRx b s
  | .ack1 => Sys2Proof.Machine.execAck1 s
  | .ack2 => Sys2Proof.Machine.execAck2 s
  | .hdrReply f => Sys2Proof.Machine.execHdrReply f s
  | .statusReply p => Sys2Proof.Machine.execStatusReply p s
  | .configReply p => Sys2Proof.Machine.execConfigReply p s
  | .crcCompute b k n => Sys2Proof.Machine.execCrcCompute b k n s
  | .crcInsert b k n => Sys2Proof.Machine.execCrcInsert b k n s
  | .verifyMessage b n => Sys2Proof.Machine.execVerifyMessage b n s
  | .verifyReply b e => Sys2Proof.Machine.execVerifyReply b e s
  | .buildMessage b n => Sys2Proof.Machine.execBuildMessage b n s
  | .evenParityAddr a => Sys2Proof.Machine.execEvenParityAddr a s
  | .parityOk b => Sys2Proof.Machine.execParityOk b s
  | .slotOffset d => Sys2Proof.Machine.execSlotOffset d s
  | .tx b p => Sys2Proof.Machine.execTx b p s
  | .rx n t => Sys2Proof.Machine.execRx n t s
  | .trySend m v => Sys2Proof.Machine.execTrySend m v s
  | .tryRecv m => Sys2Proof.Machine.execTryRecv m s
  | .applySettings h v => Sys2Proof.Machine.execApplySettings h v s
  | .publishReadings r => Sys2Proof.Machine.execPublishReadings r s
  | .handshake => Sys2Proof.Machine.execHandshake s
  | .expectAck1 => Sys2Proof.Machine.execExpectAck1 s
  | .expectMsg n h => Sys2Proof.Machine.execExpectMsg n h s
  | .sendMsg b n => Sys2Proof.Machine.execSendMsg b n s
  | .drainSettings => Sys2Proof.Machine.execDrainSettings s
  | .checkRemoteEnabled => Sys2Proof.Machine.execCheckRemoteEnabled s
  | .dormant => Sys2Proof.Machine.execDormant s
  | .waitForPoll => Sys2Proof.Machine.execWaitForPoll s
  | .headerExchange => Sys2Proof.Machine.execHeaderExchange s
  | .dataExchange => Sys2Proof.Machine.execDataExchange s
  | .pollSiblings => Sys2Proof.Machine.execPollSiblings s

end Sys2Proof.Machine
end

