-- ==== Sys2Proof/WellFormed.lean ====
section
/-! DEFINITION. Which operands the spec admits for each instruction. -/

namespace Sys2Proof

open Sys2Proof.Machine

/-- `i.wellFormed`: every operand is one the instruction's own rule admits. -/
def Instr.wellFormed : Instr → Bool
  -- R126: every byte is admitted by the word; the registration checks are made when the command runs (R281)
  | .addInstance _ _ _ => true
  | .start => true
  | .sendSettings _ s => settingsOk s                                  -- R127, R136
  | .receiveReadings => true
  | .pollTx a => pollList.contains a                                   -- R116, R237
  | .hsAck => true
  | .hsPoll => true
  | .hdrAck a => Machine.parityOk a                                     -- R34, R118
  | .cmdStatus d => slotOk d                                           -- R33, R120
  | .cmdConfig d => slotOk d                                           -- R33, R122
  | .configWrite d payload => slotOk d && payload.length == 40         -- R33, R124
  | .pollReply body => body.length == 5                                -- R125
  | .pollRx _ => true
  | .ack1 => true
  | .ack2 => true
  | .hdrReply _ => true
  | .statusReply payload => payload.length == 16                       -- R121
  | .configReply payload => payload.length == 40                       -- R123
  | .crcCompute buffer first length => first + length ≤ buffer.length  -- R163
  | .crcInsert buffer first length => first + length + 2 ≤ buffer.length  -- R164
  | .verifyMessage buffer length => length ≤ buffer.length             -- R165
  | .verifyReply _ _ => true
  | .buildMessage body length => (length == 9 || length == 48) && body.length + 4 == length  -- R167
  | .evenParityAddr _ => true
  | .parityOk _ => true
  | .slotOffset d => slotOk d                                          -- R169
  | .tx bytes _ => 1 ≤ bytes.length                                    -- R190
  | .rx n _ => n == 1 || n == 2 || n == 9 || n == 24 || n == 48        -- R193
  | .trySend (.settings _) v => settingsOk v                           -- R127
  | .trySend .readings _ => true
  | .tryRecv _ => true
  | .applySettings _ s => settingsOk s                                 -- R288
  | .publishReadings _ => true
  | .handshake => true
  | .expectAck1 => true
  | .expectMsg length header => (length == 9 || length == 24 || length == 48) && header.length == 5  -- R224
  | .sendMsg body length => (length == 9 || length == 48) && body.length + 4 == length  -- R140, R167
  | .drainSettings => true
  | .checkRemoteEnabled => true
  | .dormant => true
  | .waitForPoll => true
  | .headerExchange => true
  | .dataExchange => true
  | .pollSiblings => true

end Sys2Proof
end

