-- ==== Sys2Proof/Decode.lean ====
section
/-! DEFINITION. The decoder of what crosses the two ports, total and rejecting by name, and the encoder
(30_encoding.md R110 to R141). The rows of format `internal` have no word (R141). -/

namespace Sys2Proof

open Sys2Proof.Machine

/-- Why a port word is no instruction. -/
inductive DecodeError
  /-- A reserved `CMD` value (30_encoding.md R126, R136). -/
  | reservedCommand
  /-- A non-zero field where R126 says "must be 0" (R136). -/
  | reservedField
  /-- No frame of this length is sent or received in this sequencer state (R135). -/
  | noFrameOfThisLength
  /-- VERIFY_MESSAGE is false (R112). -/
  | badEnvelope
  /-- The fixed bytes of the frame differ (R119 to R123). -/
  | badHeader
  /-- Not the acknowledgement of this length (R114, R115). -/
  | badAcknowledgement
  /-- A transmitted poll byte that is not in the poll list (R116). -/
  | notInPollList
deriving DecidableEq, Repr

/-- The host command word's fields (R126): a reserved `CMD` is refused first, then a field that must be 0. -/
def decodeHost (w : HostWord) : Except DecodeError Instr :=
  let cmd := w.extractLsb' 60 4
  let handle := w.extractLsb' 40 8
  let arg := w.extractLsb' 0 32
  let reserved := w.extractLsb' 48 12 != 0#12 || w.extractLsb' 32 8 != 0#8
  if cmd = 0x1#4 then
    if reserved || handle != 0#8 || arg.extractLsb' 24 8 != 0#8 then .error .reservedField
    else .ok (.addInstance (arg.extractLsb' 16 8) (arg.extractLsb' 8 8) (arg.extractLsb' 0 8))
  else if cmd = 0x2#4 then
    if reserved || handle != 0#8 || arg != 0#32 then .error .reservedField else .ok .start
  else if cmd = 0x3#4 then
    if reserved then .error .reservedField else .ok (.sendSettings handle arg)
  else if cmd = 0x4#4 then
    if reserved || handle != 0#8 || arg != 0#32 then .error .reservedField else .ok .receiveReadings
  else .error .reservedCommand

/-- A message of length `length` whose first five bytes are `header`: its bytes from `5` to the CRC field. -/
def decodeMessage (r : Bytes) (length : Nat) (header : Bytes) : Except DecodeError Bytes :=
  if r.length ≠ length then .error .noFrameOfThisLength
  else if !verifyMessage r length then .error .badEnvelope
  else if r.take 5 ≠ header then .error .badHeader
  else .ok (memRead r 5 (length - 8))

/-- An acknowledgement of one or two bytes (R114, R115). -/
def decodeAck (r : Bytes) : Except DecodeError Instr :=
  if r.length = 1 then
    if verifyReply r .one then .ok .ack1 else .error .badAcknowledgement
  else if r.length = 2 then
    if verifyReply r .two then .ok .ack2 else .error .badAcknowledgement
  else .error .noFrameOfThisLength

/-- A received string, by the sequencer state that receives it (R114 to R116, R119, R121, R123, R135). -/
def decodeRx (st : EngineState) (r : Bytes) : Except DecodeError Instr :=
  match st with
  | .waitForPoll =>
    match r with
    | [b] => .ok (.pollRx b)
    | _ => .error .noFrameOfThisLength
  | .headerExchange => (decodeMessage r 9 hdrReplyHeader).map fun p => .hdrReply (p.getD 0 0x00#8)
  | .dataExchange =>
    if r.length = 24 then (decodeMessage r 24 statusReplyHeader).map .statusReply
    else if r.length = 48 then (decodeMessage r 48 configReplyHeader).map .configReply
    else decodeAck r
  | .pollSiblings => decodeAck r
  | .setup => .error .noFrameOfThisLength
  | .drainSettings => .error .noFrameOfThisLength
  | .checkRemoteEnabled => .error .noFrameOfThisLength
  | .dormant => .error .noFrameOfThisLength

/-- A 9-byte command frame of a data exchange, by its bytes 2 to 5 (R120, R122). -/
def decodeCommand (s : Bytes) : Except DecodeError Instr :=
  if !verifyMessage s 9 then .error .badEnvelope
  else
    let device := s.getD 1 0x00#8
    let fixed := memRead s 2 4
    if fixed = [0x10#8, 0x01#8, 0x02#8, 0x10#8] then .ok (.cmdStatus device)
    else if fixed = [0x10#8, 0x01#8, 0x06#8, 0x28#8] then .ok (.cmdConfig device)
    else .error .badHeader

/-- A 48-byte configuration write (R124). -/
def decodeConfigWrite (s : Bytes) : Except DecodeError Instr :=
  if !verifyMessage s 48 then .error .badEnvelope
  else if memRead s 2 3 ≠ [0x20#8, 0x28#8, 0x06#8] then .error .badHeader
  else .ok (.configWrite (s.getD 1 0x00#8) (memRead s 5 40))

/-- A transmitted burst, by the sequencer state that sends it and its parity mode
(R116 to R118, R120, R122, R124, R125; 92_eei_decisions.md D16). -/
def decodeTx (st : EngineState) (s : Bytes) (p : Parity) : Except DecodeError Instr :=
  match st, p with
  | .headerExchange, .space =>
    match s with
    | [a, b] => if a = 0x06#8 then .ok (.hdrAck b) else .error .badAcknowledgement
    | _ => .error .noFrameOfThisLength
  | .dataExchange, .mark =>
    if s.length ≠ 1 then .error .noFrameOfThisLength
    else if s = [0x90#8] then .ok .hsPoll else .error .badHeader
  | .dataExchange, .space =>
    if s.length = 1 then
      if verifyReply s .one then .ok .hsAck else .error .badAcknowledgement
    else if s.length = 9 then decodeCommand s
    else if s.length = 48 then decodeConfigWrite s
    else .error .noFrameOfThisLength
  | .pollSiblings, .mark =>
    match s with
    | [a] => if pollList.contains a then .ok (.pollTx a) else .error .notInPollList
    | _ => .error .noFrameOfThisLength
  | .pollSiblings, .space =>
    if s.length ≠ 9 then .error .noFrameOfThisLength
    else if !verifyMessage s 9 then .error .badEnvelope
    else .ok (.pollReply (memRead s 1 5))
  | _, _ => .error .noFrameOfThisLength

/-- The decoder: the instruction that a port word is, or why it is none. -/
def decode : PortWord → Except DecodeError Instr
  | .host w => decodeHost w
  | .tx st s p => decodeTx st s p
  | .rx st r => decodeRx st r

/-- The 64-bit host command word of its fields (R126). -/
def hostWord (cmd : BitVec 4) (handle : Byte) (arg : BitVec 32) : HostWord :=
  cmd ++ (0#12 ++ (handle ++ (0#8 ++ arg)))

/-- The encoder: the port word of an instruction that crosses a port; a row of format `internal` has none (R141). -/
def encode : Instr → Option PortWord
  | .addInstance d p r => some (.host (hostWord 0x1#4 0#8 (0#8 ++ (d ++ (p ++ r)))))
  | .start => some (.host (hostWord 0x2#4 0#8 0#32))
  | .sendSettings h s => some (.host (hostWord 0x3#4 h s))
  | .receiveReadings => some (.host (hostWord 0x4#4 0#8 0#32))
  | .pollTx a => some (.tx .pollSiblings [a] .mark)
  | .hsAck => some (.tx .dataExchange [0x06#8] .space)
  | .hsPoll => some (.tx .dataExchange [0x90#8] .mark)
  | .hdrAck a => some (.tx .headerExchange (hdrAckBytes a) .space)
  | .cmdStatus d => some (.tx .dataExchange (cmdStatusBytes d) .space)
  | .cmdConfig d => some (.tx .dataExchange (cmdConfigBytes d) .space)
  | .configWrite d payload => some (.tx .dataExchange (configWriteBytes d payload) .space)
  | .pollReply body => some (.tx .pollSiblings (pollReplyBytes body) .space)
  | .pollRx b => some (.rx .waitForPoll [b])
  | .ack1 => some (.rx .dataExchange (ackBytes .one))
  | .ack2 => some (.rx .dataExchange (ackBytes .two))
  | .hdrReply f => some (.rx .headerExchange (hdrReplyBytes f))
  | .statusReply payload => some (.rx .dataExchange (statusReplyBytes payload))
  | .configReply payload => some (.rx .dataExchange (configReplyBytes payload))
  | .crcCompute _ _ _ => none
  | .crcInsert _ _ _ => none
  | .verifyMessage _ _ => none
  | .verifyReply _ _ => none
  | .buildMessage _ _ => none
  | .evenParityAddr _ => none
  | .parityOk _ => none
  | .slotOffset _ => none
  | .tx _ _ => none
  | .rx _ _ => none
  | .trySend _ _ => none
  | .tryRecv _ => none
  | .applySettings _ _ => none
  | .publishReadings _ => none
  | .handshake => none
  | .expectAck1 => none
  | .expectMsg _ _ => none
  | .sendMsg _ _ => none
  | .drainSettings => none
  | .checkRemoteEnabled => none
  | .dormant => none
  | .waitForPoll => none
  | .headerExchange => none
  | .dataExchange => none
  | .pollSiblings => none

/-- The bytes of a table word: byte `k` is bits `8k+7 : 8k`. -/
def tableBytes (nbits w : Nat) : Bytes :=
  (List.range (nbits / 8)).map fun k => BitVec.ofNat 8 (w >>> (8 * k))

/-- The port words that a table word of `nbits` bits may stand for, the most constrained row first. A bare byte
string does not say its direction, so rows that share their bits (HS_ACK and ACK1; POLL_TX and POLL_RX) are told
apart by this order only (DESIGN CHOICE, unsafe: notes/assumptions/20.md). -/
def tablePortWords (nbits w : Nat) : List PortWord :=
  let s := tableBytes nbits w
  if nbits = 64 then [.host (BitVec.ofNat 64 w)]
  else if nbits = 8 then
    [.tx .dataExchange s .space, .tx .dataExchange s .mark, .tx .pollSiblings s .mark, .rx .waitForPoll s]
  else if nbits = 16 then [.rx .dataExchange s, .tx .headerExchange s .space]
  else if nbits = 72 then [.rx .headerExchange s, .tx .dataExchange s .space, .tx .pollSiblings s .space]
  else if nbits = 192 then [.rx .dataExchange s]
  else if nbits = 384 then [.rx .dataExchange s, .tx .dataExchange s .space]
  else []

/-- The instruction that the decoder reads from a table word, its bits numbered as the table numbers them. -/
def decodeTableWord (nbits w : Nat) : Option Instr :=
  (tablePortWords nbits w).findSome? fun p => (decode p).toOption

end Sys2Proof
end

