-- ==== Sys2Proof/Machine/Fetch.lean ====
section
/-! DEFINITION. What the next step runs: a host agent's command word, decoded, or the engine-state row that the
sequencer's position names (00_scope.md R11, R13; 20_memory.md R100). -/

namespace Sys2Proof.Machine

/-- What a step finds to do. -/
inductive Fetched
  /-- The instruction, and the state in which it runs. -/
  | run (i : Instr) (s : State)
  /-- A host command word that is no command. -/
  | reject (r : Refusal)
  /-- Nothing: no host agent issues a command, or the engine takes no step in the setup phase. -/
  | idle (s : State)
deriving DecidableEq, Repr

/-- The refusal of a host command word that the decoder rejects (30_encoding.md R136). -/
def refusalOf : DecodeError → Refusal
  | .reservedCommand => .reservedCommand
  | .reservedField => .reservedField
  | .noFrameOfThisLength => .reservedField
  | .badEnvelope => .reservedField
  | .badHeader => .reservedField
  | .badAcknowledgement => .reservedField
  | .notInPollList => .reservedField

/-- A host agent issues the command word `w` (30_encoding.md R126, R136). -/
def fetchHost (w : HostWord) (s : State) : Fetched :=
  match decode (.host w) with
  | .ok i => .run i s
  | .error e => .reject (refusalOf e)

/-- The engine-state row of a sequencer state. -/
def stateRow : EngineState → Instr
  | .setup => .drainSettings
  | .drainSettings => .drainSettings
  | .checkRemoteEnabled => .checkRemoteEnabled
  | .dormant => .dormant
  | .waitForPoll => .waitForPoll
  | .headerExchange => .headerExchange
  | .dataExchange => .dataExchange
  | .pollSiblings => .pollSiblings

/-- The engine state whose part of the program a micro-step belongs to; E99 belongs to the state that aborted
(42_engine.md R245). -/
def Label.owner (l : Label) (st : EngineState) : EngineState :=
  match l with
  | .e01 => .drainSettings
  | .e02 => .drainSettings
  | .e03 => .checkRemoteEnabled
  | .e04 => .dormant
  | .e05 => .waitForPoll
  | .e06 => .waitForPoll
  | .e20 => .headerExchange
  | .e21 => .headerExchange
  | .e40 | .e41 | .e42 | .e43 | .e44 | .e45 | .e46 | .e47 | .e48 => .pollSiblings
  | .e99 => st
  | _ => .dataExchange

/-- The row that the engine runs next (20_memory.md R100). -/
def engineInstr (s : State) : Instr := stateRow (s.mpc.owner s.st)

/-- What the next step runs (00_scope.md R13, 60_exceptions.md R311). -/
def fetch (s : State) : Fetched :=
  match s.turn with
  | .host =>
    match s.hostIn with
    | w :: q => fetchHost w { s with hostIn := q }
    | [] =>
      match Config.hostCommand s.draws with
      | some w => fetchHost w (drawn s)
      | none => .idle (drawn s)
  | .engine =>
    match s.phase with
    | .setup => .idle s
    | .run => .run (engineInstr s) s

/-- The outcome of a step whose instruction had this outcome. -/
def afterExec : Out → Out
  | .next s => .next (nextTurn s)
  | .fault f => .fault f
  | .refused r => .refused r

/-! ### Placing an instruction where the next step runs it -/

/-- A register set with these addresses, for `placeEngine`. -/
def placedRegisters (deviceAddress pollAddress : Byte) : RegisterSet where
  deviceAddress := deviceAddress
  pollAddress := pollAddress
  regulatorAddress := 0x10#8
  selector := 0x00#8
  knobSetting := 0x00#8
  measTemp := 0x00#8
  dipSwitch := 0x80#8
  reducedTemp := 0x00#8
  comfortTemp := 0x00#8
  skipThermostatsFlag := false

/-- The engine's turn, in the run phase, at micro-step `l` of state `q`, working on one register set. -/
def placeEngine (q : EngineState) (l : Label) (d : RegisterSet) (s : State) : State :=
  { s with phase := .run, hostTurns := 0, st := q, mpc := l, devs := [d], sm := [none], cur := 0, hdl := 0 }

/-- `s` with instruction `i` placed where the next step runs it. An instruction that crosses no port has no word and
is never fetched. -/
def placeInstr (i : Instr) (s : State) : State :=
  match encode i with
  | some (.host w) => { s with hostIn := [w], hostTurns := 1 }
  | some (.rx q r) =>
    let t := { s with busIn := [r] }
    let d := placedRegisters 0x21#8 0x21#8
    match i with
    | .ack1 => placeEngine q .x05 d t
    | .ack2 => placeEngine q .x03 d t
    | .hdrReply _ => placeEngine q .e21 d t
    | .statusReply _ => placeEngine q .x06 d t
    | .configReply _ => placeEngine q .x13 d t
    | _ => placeEngine q .e05 d t
  | some (.tx q bytes _) =>
    let d := placedRegisters (bytes.getD 1 0x21#8) 0x21#8
    match i with
    | .hsPoll => placeEngine q .x02 d s
    | .hdrAck a => placeEngine q .e20 (placedRegisters 0x21#8 a) s
    | .cmdStatus _ => placeEngine q .x04 d s
    | .cmdConfig _ => placeEngine q .x11 d s
    | .configWrite _ _ => placeEngine q .x18 d { s with cfg := bytes }
    | .pollReply _ => placeEngine q .e46 d s
    | .pollTx a => placeEngine q .e42 d { s with pi := pollList.findIdx (· == a), rep := 1 }
    | _ => placeEngine q .x01 d s
  | none => s

/-- The table word `w` placed where the next step runs it; a 64-bit word that is no command is held ready by the host
all the same, and the step refuses it. -/
def placeTableWord (nbits w : Nat) (s : State) : State :=
  match decodeTableWord nbits w with
  | some i => placeInstr i s
  | none => if nbits = 64 then { s with hostIn := [BitVec.ofNat 64 w], hostTurns := 1 } else s

end Sys2Proof.Machine
end

