-- ==== Sys2Proof/Machine/Step.lean ====
section
/-! DEFINITION. One step: what the fetch finds is run, then either agent may be next (00_scope.md R13). -/

namespace Sys2Proof.Machine

/-- One step of the controller. -/
def step (s : State) : Host.Outcome State Fault Refusal :=
  match fetch s with
  | .run i t => afterExec (exec i t)
  | .reject r => .refused r
  | .idle t => .next (nextTurn t)

/-- `s` with a table word placed so that the next step runs it. -/
def State.withFetchWord (s : State) (nbits w : Nat) : State := placeTableWord nbits w s

end Sys2Proof.Machine
end

