-- ==== Sys2Proof/Machine/HalfDegree.lean ====
section
/-! DEFINITION. The half-degree codes, and the host-side conversions between degrees and the host-port words
(30_encoding.md R131, R132; 43_registry_mailboxes.md R289, R290, R293). A temperature in °C is a rational number:
every value a float can hold is one. -/

namespace Sys2Proof.Machine

/-- `Enc(x) = floor(2x + 1/2)` (30_encoding.md R131). -/
def halfDegrees (x : ℚ) : ℤ := ⌊2 * x + 1 / 2⌋

/-- `Enc(x)` as a byte, where it is one of -128..127 (30_encoding.md R131). -/
def encodeDegrees (x : ℚ) : Option Byte :=
  if -128 ≤ halfDegrees x ∧ halfDegrees x ≤ 127 then some (BitVec.ofInt 8 (halfDegrees x)) else none

/-- A signed field in °C (30_encoding.md R132). -/
def decodeSigned (b : Byte) : ℚ := (b.toInt : ℚ) / 2

/-- An unsigned field in °C (30_encoding.md R132). -/
def decodeUnsigned (b : Byte) : ℚ := (b.toNat : ℚ) / 2

/-- The verbose-logging level (30_encoding.md R127). -/
inductive Verbosity
  | off
  | api
  | serial
  | both
deriving DecidableEq, Repr

/-- The two bits of a verbose-logging level (30_encoding.md R127). -/
def verbosityBits : Verbosity → BitVec 2
  | .off => 0#2
  | .api => 1#2
  | .serial => 2#2
  | .both => 3#2

/-- The host's settings value (30_encoding.md R127). -/
structure ThermoSettings where
  selector : Selector
  offset : ℚ
  measured : ℚ
  ignoreMeasured : Bool
  verbosity : Verbosity
  remoteControl : Bool
deriving DecidableEq, Repr

/-- The host's readings value (30_encoding.md R128). -/
structure ThermoReadings where
  outside : ℚ
  hotWater : ℚ
  mixer : ℚ
  boiler : ℚ
deriving DecidableEq, Repr

/-- The SETTINGS word of a settings value; none where a temperature has no byte, and then the value cannot be sent
(43_registry_mailboxes.md R289). -/
def settingsWord (t : ThermoSettings) : Option Settings :=
  match encodeDegrees t.offset, encodeDegrees t.measured with
  | some knob, some meas =>
    some (0#4 ++ (BitVec.ofBool t.remoteControl ++ (verbosityBits t.verbosity ++ (BitVec.ofBool t.ignoreMeasured ++
      (meas ++ (knob ++ selectorByte t.selector))))))
  | _, _ => none

/-- The readings value of a READINGS word (43_registry_mailboxes.md R293). -/
def readingsValue (r : Readings) : ThermoReadings where
  outside := decodeSigned (readingsOut r)
  hotWater := decodeUnsigned (readingsHw r)
  mixer := decodeUnsigned (readingsMix r)
  boiler := decodeUnsigned (readingsBoil r)

end Sys2Proof.Machine
end

