-- ==== Sys2Proof/Safety.lean ====
section
/-! DEFINITION. What a sound state of the controller is: the invariant that power-up meets and every step keeps, and
in which no step faults; and what a run is. -/

namespace Sys2Proof.Machine

/-- A register set as registration admits it and every write keeps it (10_state.md R33, R34, R36, R39). -/
def RegisterSet.Sound (d : RegisterSet) : Prop :=
  slotOk d.deviceAddress = true ∧ parityOk d.pollAddress = true ∧ selectorOk d.selector = true ∧
    (d.dipSwitch = 0x80#8 ∨ d.dipSwitch = 0x81#8)

/-- The micro-steps between cycles, outside every exchange: E01 to E06 (42_engine.md R245). -/
def Label.idle (l : Label) : Bool :=
  l == .e01 || l == .e02 || l == .e03 || l == .e04 || l == .e05 || l == .e06

/-- The micro-steps of DX(h): X01 to X19 (42_engine.md R245). -/
def Label.inDataExchange (l : Label) : Bool :=
  l != .e22 && (stateLabels .dataExchange).contains l

/-- The micro-steps of the poll phase that use the poll list's entry: E42 to E47 (42_engine.md R245). -/
def Label.polling (l : Label) : Bool :=
  l == .e42 || l == .e43 || l == .e44 || l == .e45 || l == .e46 || l == .e47

/-- The sequencer state that goes with a micro-step. E48 is reached with the nested exchange's state, and the abort
with that of the exchange it ends (42_engine.md R245). -/
def stateAgrees (l : Label) (st : EngineState) : Prop :=
  match l with
  | .e48 => st = .dataExchange
  | .e99 => st = .headerExchange ∨ st = .dataExchange ∨ st = .pollSiblings
  | l => st = l.owner st

/-- The position registers in the run phase, by the current micro-step (10_state.md R51, 42_engine.md R245). -/
structure PositionSound (s : State) : Prop where
  /-- The state register goes with the micro-step. -/
  state : stateAgrees s.mpc s.st
  /-- From the confirmed poll on, `cur` names a register set. -/
  cur : s.mpc.idle = false → s.cur < s.count
  /-- In a data exchange and in the poll phase, so does `h`. -/
  hdl : (s.mpc.inDataExchange = true ∨ s.mpc = .e41 ∨ s.mpc.polling = true) → s.hdl < s.count
  /-- Outside a data exchange, its nested end and an abort, nothing is nested (R244). -/
  nest : s.nest = 0 ∨ s.mpc.inDataExchange = true ∨ s.mpc = .e48 ∨ s.mpc = .e99
  /-- An exchange that is not nested works on the selected device (R221). -/
  unnested : s.mpc.inDataExchange = true → s.nest = 0 → s.hdl = s.cur
  /-- The poll index (R51). -/
  index : (s.mpc = .e41 → s.pi ≤ 8) ∧ (s.mpc.polling = true → s.pi < 8)
  /-- The transmission count (R51). -/
  count : s.mpc.polling = true → 1 ≤ s.rep ∧ s.rep ≤ 5
  /-- X07 reads the status reply that X06 received. -/
  status : s.mpc = .x07 → s.rxb.length = 24
  /-- Every exchange runs with the previous poll byte NONE (R217). -/
  prev : s.mpc.idle = false → s.prev = none

/-- The invariant. -/
structure State.Inv (s : State) : Prop where
  /-- One settings mailbox per register set (R48). -/
  boxes : s.sm.length = s.count
  /-- `n <= N_DEV_MAX` (R17). -/
  size : s.count ≤ Config.nDevMax
  /-- Every register set is sound (R33, R34, R36, R39). -/
  sets : ∀ d ∈ s.devs, d.Sound
  /-- At most one register set per poll address (R43). -/
  keys : (s.devs.map (·.pollAddress)).Nodup
  /-- A settings mailbox holds only legal words (R287). -/
  letters : ∀ v, some v ∈ s.sm → settingsOk v = true
  /-- `st` is SETUP in the setup phase and only there (R50, R52). -/
  phases : s.phase = .setup ↔ s.st = .setup
  /-- The run phase has a registered device (R17). -/
  started : s.phase = .run → s.devs ≠ []
  /-- Nothing publishes before START (R282). -/
  silent : s.phase = .setup → s.rm = none
  /-- The handles still to be visited are distinct handles (R213). -/
  pending : s.pend.Nodup ∧ ∀ h ∈ s.pend, h < s.count
  /-- The buffers' sizes (R54). -/
  buffers : s.cfg.length = 48 ∧ s.rxb.length ≤ 48
  /-- The data-exchange step (R51). -/
  exchangeStep : 1 ≤ s.dxStep ∧ s.dxStep ≤ 4
  /-- No burst is under way between steps (41_transport.md R191). -/
  quiet : s.txEn = false
  /-- The position registers (R51). -/
  position : s.phase = .run → PositionSound s

/-- A run of `n` steps (70_reset_and_hazards.md R345): the state after the last, or how the run ended before it. -/
def runSteps : Nat → State → Out
  | 0, s => .next s
  | n + 1, s =>
    match step s with
    | .next t => runSteps n t
    | .fault f => .fault f
    | .refused r => .refused r

/-- An outcome that is no fault. -/
def NoFault (o : Out) : Prop := ∀ f, o ≠ .fault f

end Sys2Proof.Machine
end

