-- ==== Sys2Proof/Certificates/Slice0/Obligations.lean ====
section
/-! DEFINITION. The statements for the provers. -/

open Sys2Proof Sys2Proof.Machine

/-! ### Words the statements use, written from the spec -/

namespace Sys2Proof.Claims

/-- What a receive of at most `n` bytes may return in `s`: any string of at most `n` bytes, the answer held ready cut
to `n` bytes where there is one (41_transport.md R193). -/
def MayReturn (n : Nat) (r : Bytes) (s : State) : Prop :=
  r.length ≤ n ∧ ∀ a q, s.busIn = a :: q → r = a.take n

/-- `s` after a receive that returned `r`. -/
def afterRx (n : Nat) (t : Tier) (r : Bytes) (s : State) : State :=
  { s with
    rxb := r
    events := .rx n t r :: s.events
    busIn := s.busIn.tail
    draws := if s.busIn = [] then s.draws + 1 else s.draws }

/-- `s` after a burst (41_transport.md R190). -/
def afterTx (bytes : Bytes) (p : Parity) (s : State) : State :=
  { s with
    txEn := false
    events := .txBurst bytes p :: s.events }

/-- `s` after a message is built for a transmit; the transmit buffer holds `held` (10_state.md R54). -/
def afterBuild (held : Bytes) (s : State) : State :=
  { s with
    txb := held
    draws := s.draws + 1 }

/-- `held` is what the transmit buffer may hold once a message is built and sent: the message, in a data exchange
(10_state.md R54; that it stays there is the model's choice, notes/assumptions/31.md). -/
def MayHold (bytes held : Bytes) (s : State) : Prop := s.st = .dataExchange → held = bytes

/-- The engine stands at micro-step `l` in the run phase. -/
def EngineAt (l : Label) (s : State) : Prop := s.phase = .run ∧ s.mpc = l

/-- A message of `length` bytes in the envelope of 30_encoding.md R112. -/
def IsMessage (m : Bytes) (length : Nat) : Prop :=
  4 ≤ length ∧ ∃ body, body.length + 4 = length ∧
    m.take length = [0x82#8] ++ body ++ [lo8 (crc16k body), hi8 (crc16k body)] ++ [0x03#8]

/-- A message of `length` bytes with the header `header` (42_engine.md R224). -/
def IsExpected (m : Bytes) (length : Nat) (header : Bytes) : Prop :=
  length ≤ m.length ∧ IsMessage m length ∧ m.take 5 = header

/-- The exchange aborts: the sequencer is at E99, nothing else moves (60_exceptions.md R304). -/
def aborting (s : State) : State := { s with mpc := .e99 }

/-- The DIP switch of an ignore flag (30_encoding.md R130). -/
def dipOf (ign : Bool) : Byte := if ign then 0x81#8 else 0x80#8

/-- The register set after APPLY_SETTINGS of `w` (43_registry_mailboxes.md R288). -/
def applied (w : Settings) (d : RegisterSet) : RegisterSet :=
  { d with
    selector := w.extractLsb' 0 8
    knobSetting := w.extractLsb' 8 8
    measTemp := w.extractLsb' 16 8
    dipSwitch := dipOf (w.getLsbD 24) }

/-- The global flags after APPLY_SETTINGS of `w` (43_registry_mailboxes.md R288). -/
def appliedFlags (w : Settings) : GlobalFlags where
  remoteControlEnabled := w.getLsbD 27
  apiLoggingEnabled := decide (w.extractLsb' 25 2 = 1#2 ∨ w.extractLsb' 25 2 = 3#2)
  serialLoggingEnabled := decide (w.extractLsb' 25 2 = 2#2 ∨ w.extractLsb' 25 2 = 3#2)

/-- What an operation of the framing and CRC unit leaves: everything but the returned value (40_codec.md R170). -/
def returned (v : ReturnValue) (s : State) : State := { s with ret := v }

/-- A host command's response, returned and recorded. -/
def responded (r : HostResponse) (s : State) : State :=
  { s with ret := .response r, events := .host r :: s.events }

/-- Instruction `i` sends exactly `bytes` in parity mode `p`, run where everything but the sequencer is as in `before`:
one burst event, TX_EN low again; every register, mailbox, flag and buffer but `dxStep` as in `before`, `st` too; and
the sequencer passes a micro-step of `labels` (in the run phase) to the one after it, with `dxStep` the data-exchange
step that the micro-step opens, if it opens one, and stays where it is, `dxStep` as before, otherwise. -/
def SendsFrom (before : State) (i : Instr) (bytes : Bytes) (p : Parity) (labels : List (Label × Option Nat × Label))
    (s : State) : Prop :=
  ∃ (step : Nat) (at' : Label),
    exec i s = .next { afterTx bytes p before with dxStep := step, mpc := at' } ∧
      (∀ l k l', (l, k, l') ∈ labels → s.phase = .run → s.mpc = l → at' = l' ∧ step = k.getD s.dxStep) ∧
      ((s.phase = .setup ∨ ∀ l k l', (l, k, l') ∈ labels → s.mpc ≠ l) → at' = s.mpc ∧ step = s.dxStep)

/-- Instruction `i` sends `bytes` and builds no message: `TXB` is as before. -/
def Sends (i : Instr) (bytes : Bytes) (p : Parity) (labels : List (Label × Option Nat × Label)) : Prop :=
  ∀ s : State, SendsFrom s i bytes p labels s

/-- Instruction `i` builds the message `bytes` and sends it with SPACE. -/
def SendsMessage (i : Instr) (bytes : Bytes) (labels : List (Label × Option Nat × Label)) : Prop :=
  ∀ s : State, ∃ held, MayHold bytes held s ∧ SendsFrom (afterBuild held s) i bytes .space labels s

/-- One bit-wise division of the CRC as R160 defines it: the register shifts left by the polynomial 0x1021. -/
def leftShift (c : Crc) : Crc := if c.getLsbD 15 then (c <<< 1) ^^^ 0x1021#16 else c <<< 1

/-- One reflected byte enters at the high end. -/
def leftByte (c : Crc) (b : Byte) : Crc := Nat.repeat leftShift 8 (c ^^^ (b.reverse.setWidth 16 <<< 8))

end Sys2Proof.Claims

open Sys2Proof.Claims

/-! ### The framing and CRC unit (40_codec.md) -/

/-- R160: the CRC is the division by 0x1021 with initial value 0, input and output reflected, no final XOR, and its
check value is 0x2189. What reflection does to the bits and the check value are general knowledge in R160 itself
(PRESUMED, notes/assumptions/23.md). -/
def Obligations.CrcIsReflectedDivision : Prop :=
  (∀ s : Bytes, crc16k s = (s.foldl leftByte 0#16).reverse) ∧
    crc16k [0x31#8, 0x32#8, 0x33#8, 0x34#8, 0x35#8, 0x36#8, 0x37#8, 0x38#8, 0x39#8] = 0x2189#16

/-- R162 (a) to (d): the empty string, leading zeros, linearity, the residue. -/
def Obligations.CrcLinearWithZeroResidue : Prop :=
  crc16k [] = 0x0000#16 ∧
    (∀ (k : Nat) (s : Bytes), crc16k (List.replicate k 0x00#8 ++ s) = crc16k s) ∧
    (∀ a b : Bytes, a.length = b.length →
      crc16k (List.zipWith (· ^^^ ·) a b) = crc16k a ^^^ crc16k b) ∧
    (∀ s : Bytes, crc16k (s ++ [lo8 (crc16k s), hi8 (crc16k s)]) = 0x0000#16)

/-- R163: CRC_COMPUTE returns the CRC of its range and writes nothing; a range outside the buffer is refused. -/
def Obligations.CrcComputeReturnsCrcOfRange : Prop :=
  ∀ (b : Bytes) (k n : Nat) (s : State),
    (k + n ≤ b.length → exec (.crcCompute b k n) s = .next (returned (.crc (crc16k ((b.drop k).take n))) s)) ∧
      (b.length < k + n → exec (.crcCompute b k n) s = .refused .crcRange)

/-- R164: CRC_INSERT writes the two CRC bytes after the covered range, low byte first, and no other byte; a range
outside the buffer is refused. -/
def Obligations.CrcInsertWritesTwoBytes : Prop :=
  ∀ (b : Bytes) (k n : Nat) (s : State),
    (k + n + 2 ≤ b.length → ∃ f : Bytes,
      exec (.crcInsert b k n) s = .next (returned (.buffer f) s) ∧ f.length = b.length ∧
        f[k + n]? = some ((crc16k ((b.drop k).take n)).extractLsb' 0 8) ∧
        f[k + n + 1]? = some ((crc16k ((b.drop k).take n)).extractLsb' 8 8) ∧
        ∀ i, i ≠ k + n → i ≠ k + n + 1 → f[i]? = b[i]?) ∧
      (b.length < k + n + 2 → exec (.crcInsert b k n) s = .refused .crcRange)

/-- R165 and R166: VERIFY_MESSAGE returns true exactly on the messages of the envelope, VERIFY_REPLY exactly on the
acknowledgement of the expected length; they write nothing. -/
def Obligations.VerifyAcceptsExactlyEnvelopesAndAcks : Prop :=
  (∀ (m : Bytes) (n : Nat) (s : State), ∃ ok : Bool,
      exec (.verifyMessage m n) s = .next (returned (.bool ok) s) ∧ (ok = true ↔ IsMessage m n)) ∧
    ∀ (r : Bytes) (s : State),
      exec (.verifyReply r .one) s = .next (returned (.bool (decide (r = [0x06#8]))) s) ∧
        exec (.verifyReply r .two) s = .next (returned (.bool (decide (r = [0x06#8, 0x90#8]))) s)

/-- R167: BUILD_MESSAGE returns the envelope of its body, which VERIFY_MESSAGE accepts. -/
def Obligations.BuildMessageReturnsEnvelope : Prop :=
  ∀ (body : Bytes) (n : Nat) (s : State), n = 9 ∨ n = 48 → body.length + 4 = n →
    ∃ m : Bytes, exec (.buildMessage body n) s = .next (returned (.buffer m) s) ∧
      m = [0x82#8] ++ body ++ [lo8 (crc16k body), hi8 (crc16k body)] ++ [0x03#8] ∧
      exec (.verifyMessage m n) s = .next (returned (.bool true) s)

/-- R168, R169: the poll-address parity code is even and keeps the 7-bit address; the offsets of the three slots are
23, 31, 39, whatever the high nibble. Every entry of the poll list has even parity (R88). -/
def Obligations.ParityCodeAndSlotOffsets : Prop :=
  (∀ (a7 : BitVec 7) (s : State), ∃ b : Byte,
      exec (.evenParityAddr a7) s = .next (returned (.byte b) s) ∧ b.setWidth 7 = a7 ∧
        b.getLsbD 7 = decide (((List.range 7).filter a7.getLsbD).length % 2 = 1) ∧
        exec (.parityOk b) s = .next (returned (.bool true) s)) ∧
    (∀ (b : Byte) (s : State),
      exec (.parityOk b) s =
        .next (returned (.bool (decide (((List.range 8).filter b.getLsbD).length % 2 = 0))) s)) ∧
    (∀ a ∈ pollList, parityOk a = true) ∧
    ∀ (d : Byte) (s : State),
      (d.extractLsb' 0 4 = 1#4 → exec (.slotOffset d) s = .next (returned (.index 23) s)) ∧
        (d.extractLsb' 0 4 = 2#4 → exec (.slotOffset d) s = .next (returned (.index 31) s)) ∧
        (d.extractLsb' 0 4 = 3#4 → exec (.slotOffset d) s = .next (returned (.index 39) s))

/-- R171: CRC_INSERT over `(1, L-4)` on a frame with its start and end bytes makes VERIFY_MESSAGE true. -/
def Obligations.CrcInsertThenVerifySucceeds : Prop :=
  ∀ (m : Bytes) (s : State), 4 ≤ m.length → m[0]? = some 0x82#8 → m[m.length - 1]? = some 0x03#8 →
    ∃ f : Bytes, exec (.crcInsert m 1 (m.length - 4)) s = .next (returned (.buffer f) s) ∧
      exec (.verifyMessage f m.length) s = .next (returned (.bool true) s)

/-- R172: flipping any single bit of a verified message makes VERIFY_MESSAGE false, in the covered range, in the CRC
field, and in the start and end bytes. -/
def Obligations.SingleBitFlipIsDetected : Prop :=
  ∀ (m : Bytes) (n i j : Nat) (b : Byte), verifyMessage m n = true → i < n → j < 8 → m[i]? = some b →
    verifyMessage (m.set i (b ^^^ (1#8 <<< j))) n = false

/-! ### The transport port (41_transport.md) -/

/-- TX puts each byte on the wire in order with the one parity mode, records one event, leaves TX_EN low and writes
nothing else. The burst of no bytes is the model's choice (notes/assumptions/32.md). -/
def Obligations.TxEmitsBurst : Prop :=
  ∀ (bytes : Bytes) (p : Parity) (s : State),
    exec (.tx bytes p) s = .next (afterTx bytes p s) ∧
      Event.symbols (.txBurst bytes p) =
        bytes.map fun d => (d, match p with | .space => 0#1 | .mark => 1#1)

/-- RX returns at most `n` bytes into `RXB`, the environment's choice, and records one event (R193; for an `n` that it
does not admit the model's choice, notes/assumptions/32.md). -/
def Obligations.RxReturnsAtMostN : Prop :=
  ∀ (n : Nat) (t : Tier) (s : State), ∃ r : Bytes, MayReturn n r s ∧
    exec (.rx n t) s = .next { afterRx n t r s with ret := .buffer r }

/-! ### Mailboxes (43_registry_mailboxes.md) -/

/-- R285, R286: TrySend stores into an empty slot and keeps the value of a full one; TryRecv returns what the slot
holds and leaves it empty; no other mailbox and nothing else changes. That a settings mailbox takes a word that R136
calls illegal as it takes a legal one is the model's choice (notes/assumptions/32.md). -/
def Obligations.MailboxesAreSingleSlots : Prop :=
  ∀ (v : BitVec 32) (s : State),
    (s.rm = none → exec (.trySend .readings v) s = .next { s with rm := some v }) ∧
      (∀ w, s.rm = some w → exec (.trySend .readings v) s = .next s) ∧
      (∀ h, s.sm[h]? = some none → exec (.trySend (.settings h) v) s = .next { s with sm := s.sm.set h (some v) }) ∧
      (∀ h w, s.sm[h]? = some (some w) → exec (.trySend (.settings h) v) s = .next s) ∧
      exec (.tryRecv .readings) s = .next { s with rm := none, ret := .received s.rm } ∧
      ∀ h w, s.sm[h]? = some w →
        exec (.tryRecv (.settings h)) s = .next { s with sm := s.sm.set h none, ret := .received w }

/-- R288: APPLY_SETTINGS writes four fields of its register set and the three global flags. That it does so for a word
that R136 calls illegal too is the model's choice (notes/assumptions/32.md). -/
def Obligations.ApplySettingsWritesFourFields : Prop :=
  ∀ (h : Nat) (w : Settings) (d : RegisterSet) (s : State), s.devs[h]? = some d →
    exec (.applySettings h w) s = .next { s with devs := s.devs.set h (applied w d), flags := appliedFlags w }

/-- Operands that name nothing are refused: a mailbox or register set of a handle that does not exist, and a message
length whose CRC field would leave the buffer (the model's choice, notes/assumptions/18.md and 22.md). -/
def Obligations.OperandsThatNameNothingAreRefused : Prop :=
  ∀ (h : Nat) (v : BitVec 32) (s : State),
    (s.sm[h]? = none →
      exec (.trySend (.settings h) v) s = .refused .badHandle ∧ exec (.tryRecv (.settings h)) s = .refused .badHandle) ∧
      (s.devs[h]? = none → exec (.applySettings h v) s = .refused .badHandle) ∧
      ∀ (body : Bytes) (n : Nat), body.length + 5 < n →
        exec (.buildMessage body n) s = .refused .crcRange ∧ exec (.sendMsg body n) s = .refused .crcRange

/-- R292: PUBLISH_READINGS stores into an empty readings mailbox; a full one keeps the older readings. -/
def Obligations.PublishKeepsOlderReadings : Prop :=
  ∀ (r : Readings) (s : State),
    (s.rm = none → exec (.publishReadings r) s = .next { s with rm := some r, events := .publish r true :: s.events }) ∧
      ∀ w, s.rm = some w → exec (.publishReadings r) s = .next { s with events := .publish r false :: s.events }

/-- R294, for any two sends: a value stored in a settings mailbox stays, whatever steps are taken, until the engine
visits that handle in E02. -/
def Obligations.StoredSettingsStayUntilDrained : Prop :=
  ∀ (s t : State) (h : Nat) (v : Settings), s.sm[h]? = some (some v) → step s = .next t →
    t.sm[h]? = some (some v) ∨
      (s.turn = .engine ∧ EngineAt .e02 s ∧ s.pend.head? = some h ∧ t.sm[h]? = some none)

/-! ### The host port (43_registry_mailboxes.md) -/

/-- R280: an admitted ADD_INSTANCE appends a register set with its three addresses and an empty mailbox, and returns
the next handle; the other fields are free values in their ranges. -/
def Obligations.AddInstanceAppendsRegisterSet : Prop :=
  ∀ (dev poll reg : Byte) (s : State), s.phase = .setup → s.count < Config.nDevMax → slotOk dev = true →
    parityOk poll = true → (∀ d ∈ s.devs, d.pollAddress ≠ poll) →
    ∃ d : RegisterSet,
      d.deviceAddress = dev ∧ d.pollAddress = poll ∧ d.regulatorAddress = reg ∧
        (d.selector = 0x00#8 ∨ d.selector = 0x03#8 ∨ d.selector = 0x04#8) ∧
        (d.dipSwitch = 0x80#8 ∨ d.dipSwitch = 0x81#8) ∧
        exec (.addInstance dev poll reg) s =
          .next (responded (.handle (BitVec.ofNat 8 s.count))
            { s with devs := s.devs ++ [d], sm := s.sm ++ [none], draws := s.draws + 1 }) ∧
        ∀ t, exec (.addInstance dev poll reg) s = .next t → t.reg poll = some s.count

/-- R281: ADD_INSTANCE is refused exactly where one of the five cases holds, and the refusal names a case that
holds. -/
def Obligations.AddInstanceRefusals : Prop :=
  ∀ (dev poll reg : Byte) (s : State),
    ((∃ r, exec (.addInstance dev poll reg) s = .refused r) ↔
      s.phase ≠ .setup ∨ s.devs.length = Config.nDevMax ∨ dev &&& 0x0F#8 ∉ [0x01#8, 0x02#8, 0x03#8] ∨
        parityOk poll = false ∨ ∃ d ∈ s.devs, d.pollAddress = poll) ∧
      ∀ r, exec (.addInstance dev poll reg) s = .refused r →
        (r = .addAfterStart ∧ s.phase ≠ .setup) ∨ (r = .registryFull ∧ s.devs.length = Config.nDevMax) ∨
          (r = .badSlot ∧ dev &&& 0x0F#8 ∉ [0x01#8, 0x02#8, 0x03#8]) ∨ (r = .pollParity ∧ parityOk poll = false) ∨
          (r = .duplicatePoll ∧ ∃ d ∈ s.devs, d.pollAddress = poll)

/-- R282: START enters the run phase at E01 with `prev` NONE and `nest` 0; the flags are free; mailboxes keep their
values; a second START and an empty registry are refused. -/
def Obligations.StartEntersRunPhase : Prop :=
  ∀ s : State,
    (s.phase = .setup → s.devs ≠ [] → ∃ g : GlobalFlags,
      exec .start s = .next (responded .nothing
        { s with
          phase := .run, flags := g, prev := none, nest := 0, st := .drainSettings, mpc := .e01,
          draws := s.draws + 1 })) ∧
      (s.phase = .run → exec .start s = .refused .startTwice) ∧
      (s.phase = .setup → s.devs = [] → exec .start s = .refused .emptyRegistry)

/-- R287: SEND_SETTINGS stores into an empty mailbox and is dropped silently by a full one, in both phases; a bad
handle, and then a bad word, are refused. -/
def Obligations.SendSettingsStoresOrDrops : Prop :=
  ∀ (h : Byte) (v : Settings) (s : State),
    (h.toNat < s.count → settingsOk v = true → s.sm[h.toNat]? = some none →
      exec (.sendSettings h v) s = .next (responded .nothing { s with sm := s.sm.set h.toNat (some v) })) ∧
      (∀ w, h.toNat < s.count → settingsOk v = true → s.sm[h.toNat]? = some (some w) →
        exec (.sendSettings h v) s = .next (responded .nothing s)) ∧
      (s.count ≤ h.toNat → exec (.sendSettings h v) s = .refused .badHandle) ∧
      (h.toNat < s.count → settingsOk v = false → exec (.sendSettings h v) s = .refused .badSettings)

/-- R291: RECEIVE_READINGS returns the readings once, and none when nothing is pending, in both phases; a second
immediate call returns none. -/
def Obligations.ReceiveReadingsTakesOnce : Prop :=
  ∀ s : State,
    (∀ r, s.rm = some r →
      exec .receiveReadings s = .next (responded (.readings (1#1 ++ r)) { s with rm := none })) ∧
      (s.rm = none → exec .receiveReadings s = .next (responded (.readings 0#33) s)) ∧
      ∀ t, exec .receiveReadings s = .next t → exec .receiveReadings t = .next (responded (.readings 0#33) t)

/-- R136: at a host's turn a word with a reserved CMD, with a non-zero bit where R126 says 0, or with an illegal
SETTINGS word is refused; a refusal has no next state. -/
def Obligations.IllegalHostWordsAreRefused : Prop :=
  ∀ (s : State) (w : HostWord) (q : List HostWord), s.turn = .host → s.hostIn = w :: q →
    (w.extractLsb' 60 4 = 0#4 ∨ 5 ≤ (w.extractLsb' 60 4).toNat → step s = .refused .reservedCommand) ∧
      ((w.extractLsb' 60 4 = 1#4 ∧ w.extractLsb' 24 36 ≠ 0#36) ∨
        ((w.extractLsb' 60 4 = 2#4 ∨ w.extractLsb' 60 4 = 4#4) ∧ w.extractLsb' 0 60 ≠ 0#60) ∨
        (w.extractLsb' 60 4 = 3#4 ∧ (w.extractLsb' 48 12 ≠ 0#12 ∨ w.extractLsb' 32 8 ≠ 0#8)) →
        step s = .refused .reservedField) ∧
      (w.extractLsb' 60 4 = 3#4 → w.extractLsb' 48 12 = 0#12 → w.extractLsb' 32 8 = 0#8 →
        w.extractLsb' 0 8 ∉ [0x00#8, 0x03#8, 0x04#8] ∨ w.extractLsb' 28 4 ≠ 0#4 →
        ∃ r ∈ [Refusal.badHandle, .badSettings], step s = .refused r)

/-! ### Frames sent (30_encoding.md, 42_engine.md) -/

/-- R116 to R118: the short strings the controller sends, their parity modes, and the micro-steps they make up. -/
def Obligations.ShortStringsSent : Prop :=
  (∀ a, Sends (.pollTx a) [a] .mark [(.e42, none, .e43)]) ∧
    Sends .hsAck [0x06#8] .space [(.x01, some 1, .x02), (.x08, some 3, .x09), (.x14, some 4, .x15)] ∧
    Sends .hsPoll [0x90#8] .mark [(.x02, none, .x03), (.x09, none, .x10), (.x15, none, .x16)] ∧
    ∀ a, Sends (.hdrAck a) [0x06#8, a] .space [(.e20, none, .e21)]

/-- R120, R122, R124, R125: the messages the controller sends, their bytes and parity mode, and the micro-steps they
make up; each is a message of its length. -/
def Obligations.MessagesSent : Prop :=
  (∀ d, ∃ m, IsMessage m 9 ∧ m.length = 9 ∧ m.take 6 = [0x82#8, d, 0x10#8, 0x01#8, 0x02#8, 0x10#8] ∧
      SendsMessage (.cmdStatus d) m [(.x04, some 2, .x05)]) ∧
    (∀ d, ∃ m, IsMessage m 9 ∧ m.length = 9 ∧ m.take 6 = [0x82#8, d, 0x10#8, 0x01#8, 0x06#8, 0x28#8] ∧
      SendsMessage (.cmdConfig d) m [(.x11, none, .x12)]) ∧
    (∀ d (p : Bytes), p.length = 40 → ∃ m, IsMessage m 48 ∧ m.length = 48 ∧
      m.take 45 = [0x82#8, d, 0x20#8, 0x28#8, 0x06#8] ++ p ∧ Sends (.configWrite d p) m .space [(.x18, none, .x19)]) ∧
    ∀ b : Bytes, b.length = 5 → ∃ m, IsMessage m 9 ∧ m.length = 9 ∧ m.take 6 = 0x82#8 :: b ∧
      SendsMessage (.pollReply b) m [(.e46, none, .e47)]

/-! ### Pseudo-operations (42_engine.md R222 to R224, 30_encoding.md R140) -/

/-- R140, R222, R223, R224: HANDSHAKE sends 06 SPACE and 90 MARK, receives at most two bytes with the long tier, and
goes on exactly where they are 06 90; EXPECT_ACK1 exactly where the one byte is 06; EXPECT_MSG exactly on a message of
the expected length and header, which it returns; anything else aborts. SEND_MSG is TX of BUILD_MESSAGE with SPACE.
That `TXB` keeps the message of SEND_MSG, and the lengths that no frame has, are the model's (notes/assumptions/31.md
and 32.md). -/
def Obligations.PseudoOperationsSendAndCheck : Prop :=
  (∀ s : State, ∃ r : Bytes, MayReturn 2 r s ∧
      exec .handshake s = .next
        (let t := afterRx 2 .long r (afterTx [0x90#8] .mark (afterTx [0x06#8] .space s))
         if r = [0x06#8, 0x90#8] then t else aborting t)) ∧
    (∀ s : State, ∃ r : Bytes, MayReturn 1 r s ∧
      exec .expectAck1 s = .next (if r = [0x06#8] then afterRx 1 .long r s else aborting (afterRx 1 .long r s))) ∧
    (∀ (n : Nat) (hdr : Bytes) (s : State), ∃ r : Bytes, MayReturn n r s ∧
      (IsExpected r n hdr → exec (.expectMsg n hdr) s = .next { afterRx n .long r s with ret := .buffer r }) ∧
        (¬ IsExpected r n hdr → exec (.expectMsg n hdr) s = .next (aborting (afterRx n .long r s)))) ∧
    (∀ (n : Nat) (hdr r : Bytes) (q : List Bytes) (s : State), s.busIn = r :: q → r.length = n → IsExpected r n hdr →
      exec (.expectMsg n hdr) s =
        .next { s with busIn := q, rxb := r, events := .rx n .long r :: s.events, ret := .buffer r }) ∧
    ∀ (body : Bytes) (n : Nat) (s : State), n = 9 ∨ n = 48 → body.length + 4 = n → ∃ m held : Bytes,
      exec (.buildMessage body n) s = .next (returned (.buffer m) s) ∧ MayHold m held s ∧
        exec (.sendMsg body n) s = .next (afterTx m .space (afterBuild held s))

/-! ### The cycle: drain, check, poll detection (42_engine.md R212 to R217) -/

/-- R213: E01 chooses an order of all the handles; every handle is in it once. -/
def Obligations.DrainOrderIsPermutation : Prop :=
  ∀ s : State, EngineAt .e01 s → ∃ order : List Nat, order.Perm (List.range s.devs.length) ∧
    exec .drainSettings s =
      .next { s with st := .drainSettings, mpc := .e02, pend := order, draws := s.draws + 1 }

/-- R212: E02 visits the first pending handle: a settings value is taken and applied, an empty mailbox is skipped;
after the last handle comes E03. No sound state's mailbox holds an illegal word; what is done with one is the model's
choice (notes/assumptions/32.md). -/
def Obligations.DrainVisitAppliesSettings : Prop :=
  ∀ (s : State) (h : Nat) (rest : List Nat) (d : RegisterSet), EngineAt .e02 s → s.pend = h :: rest →
    s.devs[h]? = some d →
    ∀ next : State,
      next = { s with
        pend := rest
        mpc := if rest = [] then .e03 else .e02
        st := if rest = [] then .checkRemoteEnabled else s.st } →
      (s.sm[h]? = some none →
        exec .drainSettings s = .next { next with events := .drain h none :: s.events }) ∧
        ∀ w, s.sm[h]? = some (some w) →
          exec .drainSettings s =
            .next { next with
              events := .drain h (some w) :: s.events
              sm := s.sm.set h none
              devs := s.devs.set h (applied w d)
              flags := appliedFlags w }

/-- R214 and R215: a disabled remote control clears `prev` and goes to DORMANT, which pauses with no bus event and
returns to DRAIN_SETTINGS; an enabled one goes to WAIT_FOR_POLL. -/
def Obligations.DisabledRemoteIsDormant : Prop :=
  ∀ s : State,
    (EngineAt .e03 s → s.flags.remoteControlEnabled = false →
      exec .checkRemoteEnabled s = .next { s with prev := none, st := .dormant, mpc := .e04 }) ∧
      (EngineAt .e03 s → s.flags.remoteControlEnabled = true →
        exec .checkRemoteEnabled s = .next { s with st := .waitForPoll, mpc := .e05 }) ∧
      (EngineAt .e04 s → exec .dormant s = .next { s with st := .drainSettings, mpc := .e01 })

/-- R216: WAIT_FOR_POLL receives one byte with the short tier, and confirms a poll exactly where it is a registered
poll address and equals `prev`. -/
def Obligations.PollConfirmedByTwoEqualBytes : Prop :=
  ∀ s : State,
    (EngineAt .e05 s → ∃ r : Bytes, MayReturn 1 r s ∧
      exec .waitForPoll s = .next { afterRx 1 .short r s with st := .waitForPoll, mpc := .e06 }) ∧
      (EngineAt .e06 s → s.rxb = [] →
        exec .waitForPoll s =
          .next { s with
            prev := if s.params.prevClearedOnTimeout then none else s.prev, st := .drainSettings, mpc := .e01 }) ∧
      (∀ b rest h d, EngineAt .e06 s → s.rxb = b :: rest → (s.devs.map (·.pollAddress)).Nodup →
        s.devs[h]? = some d → d.pollAddress = b → s.prev = some b →
        exec .waitForPoll s = .next { s with prev := none, cur := h, st := .headerExchange, mpc := .e20 }) ∧
      ∀ b rest, EngineAt .e06 s → s.rxb = b :: rest →
        ((∀ d ∈ s.devs, d.pollAddress ≠ b) ∨ s.prev ≠ some b) →
        exec .waitForPoll s = .next { s with prev := some b, st := .drainSettings, mpc := .e01 }

/-- POLL_RX is WAIT_FOR_POLL's receive and filter on the byte `b`. -/
def Obligations.PollRxRunsAddressFilter : Prop :=
  ∀ (s : State) (b : Byte), EngineAt .e05 s → ∃ t u,
    exec .waitForPoll { s with busIn := [b] :: s.busIn } = .next t ∧ exec .waitForPoll t = .next u ∧
      exec (.pollRx b) s = .next u ∧ t.rxb = [b] ∧
      (s.prev ≠ some b → u.prev = some b ∧ u.mpc = .e01 ∧ u.cur = s.cur) ∧
      (s.prev = some b → (∃ d ∈ s.devs, d.pollAddress = b) → u.prev = none ∧ u.mpc = .e20)

/-! ### Header exchange (42_engine.md R218 to R220) -/

/-- R218, R219, R220: E20 sends 06 and the poll address of the selected device with SPACE; at E21 a valid header
reply writes bit 0 of its byte 5 into the selected device's skip flag and goes to DATA_EXCHANGE; anything else aborts
and leaves the flag. -/
def Obligations.HeaderExchangeAcksAndLearnsSkipFlag : Prop :=
  ∀ (s : State) (d : RegisterSet), s.devs[s.cur]? = some d →
    (EngineAt .e20 s → exec .headerExchange s =
      .next { afterTx [0x06#8, d.pollAddress] .space s with st := .headerExchange, mpc := .e21 }) ∧
      (EngineAt .e21 s → ∃ r : Bytes, MayReturn 9 r s ∧
        (IsExpected r 9 [0x82#8, 0x10#8, 0xaa#8, 0x01#8, 0x00#8] → ∃ f, r[5]? = some f ∧
          exec .headerExchange s =
            .next { afterRx 9 .long r s with
              devs := s.devs.set s.cur { d with skipThermostatsFlag := f.getLsbD 0 }
              st := .dataExchange
              mpc := .e22 }) ∧
        (¬ IsExpected r 9 [0x82#8, 0x10#8, 0xaa#8, 0x01#8, 0x00#8] →
          exec .headerExchange s = .next (aborting (afterRx 9 .long r s))))

/-! ### Data exchange (42_engine.md R221 to R234) -/

/-- R225, R226, R229, R231: E22 calls the data exchange on the selected device; each step opens with its number; the
handshake bytes and the two commands, with the device address of the exchange's register set, go out at their
micro-steps, the handshakes writing no buffer. That `TXB` keeps each command is the model's choice
(notes/assumptions/31.md). -/
def Obligations.DataExchangeSendsItsFrames : Prop :=
  ∀ s : State, s.st = .dataExchange →
    (EngineAt .e22 s →
      exec .dataExchange s = .next { s with st := .dataExchange, nest := 0, hdl := s.cur, mpc := .x01 }) ∧
    (∀ l k l', (l, k, l') ∈ [(Label.x01, 1, Label.x02), (.x08, 3, .x09), (.x14, 4, .x15)] → EngineAt l s →
      exec .dataExchange s = .next { afterTx [0x06#8] .space s with dxStep := k, mpc := l' }) ∧
      (∀ l l', (l, l') ∈ [(Label.x02, Label.x03), (.x09, .x10), (.x15, .x16)] → EngineAt l s →
        exec .dataExchange s = .next { afterTx [0x90#8] .mark s with mpc := l' }) ∧
      (∀ d, EngineAt .x04 s → s.devs[s.hdl]? = some d →
        ∃ m, IsMessage m 9 ∧ m.take 6 = [0x82#8, d.deviceAddress, 0x10#8, 0x01#8, 0x02#8, 0x10#8] ∧
          exec .dataExchange s = .next { afterTx m .space (afterBuild m s) with dxStep := 2, mpc := .x05 }) ∧
      ∀ d, EngineAt .x11 s → s.devs[s.hdl]? = some d →
        ∃ m, IsMessage m 9 ∧ m.take 6 = [0x82#8, d.deviceAddress, 0x10#8, 0x01#8, 0x06#8, 0x28#8] ∧
          exec .dataExchange s = .next { afterTx m .space (afterBuild m s) with mpc := .x12 }

/-- At each receive of the data exchange but the last (ConfigWriteEndsExchange) the expected frame goes on and
anything else aborts. -/
def Obligations.DataExchangeReceivesOrAborts : Prop :=
  ∀ s : State,
    (∀ l l', (l, l') ∈ [(Label.x03, Label.x04), (.x10, .x11), (.x16, .x17)] → EngineAt l s →
      ∃ r, MayReturn 2 r s ∧ exec .dataExchange s =
        .next { afterRx 2 .long r s with mpc := if r = [0x06#8, 0x90#8] then l' else .e99 }) ∧
      (∀ l l', (l, l') ∈ [(Label.x05, Label.x06), (.x12, .x13)] → EngineAt l s →
        ∃ r, MayReturn 1 r s ∧ exec .dataExchange s =
          .next { afterRx 1 .long r s with mpc := if r = [0x06#8] then l' else .e99 }) ∧
      (EngineAt .x06 s → ∃ r, MayReturn 24 r s ∧
        (IsExpected r 24 [0x82#8, 0x10#8, 0x20#8, 0x10#8, 0x02#8] →
          exec .dataExchange s = .next { afterRx 24 .long r s with mpc := .x07 }) ∧
        (¬ IsExpected r 24 [0x82#8, 0x10#8, 0x20#8, 0x10#8, 0x02#8] →
          exec .dataExchange s = .next (aborting (afterRx 24 .long r s)))) ∧
      (EngineAt .x13 s → ∃ r, MayReturn 48 r s ∧
        (IsExpected r 48 [0x82#8, 0x10#8, 0x20#8, 0x28#8, 0x06#8] →
          exec .dataExchange s = .next { afterRx 48 .long r s with cfg := r, mpc := .x14 }) ∧
        (¬ IsExpected r 48 [0x82#8, 0x10#8, 0x20#8, 0x28#8, 0x06#8] →
          exec .dataExchange s = .next (aborting (afterRx 48 .long r s))))

/-- Each frame of the bus, arriving at a receive that expects it, completes that receive, for every free bit and byte
of the frame; POLL_RX runs the address filter, HDR_REPLY writes the selected device's skip flag, CONFIG_REPLY fills
`CFG`, ACK1 at X19 ends the data exchange, `CFG` and `TXB` then free. -/
def Obligations.ExpectedFramesAreAccepted : Prop :=
  ∀ s : State,
    (∀ b, EngineAt .e05 s → ∃ h : Nat,
      let confirmed := s.prev = some b ∧ ∃ d ∈ s.devs, d.pollAddress = b
      (confirmed → ∃ d, s.devs[h]? = some d ∧ d.pollAddress = b) ∧
        exec (.pollRx b) s =
          .next { s with
            rxb := [b]
            events := .rx 1 .short [b] :: s.events
            prev := if confirmed then none else some b
            cur := if confirmed then h else s.cur
            st := if confirmed then .headerExchange else .drainSettings
            mpc := if confirmed then .e20 else .e01 }) ∧
      (EngineAt .x19 s → ∃ cfg txb : Bytes, cfg.length = 48 ∧
        exec .ack1 s =
          .next { s with
            rxb := [0x06#8]
            events := .rx 1 .long [0x06#8] :: s.events
            cfg := cfg
            txb := txb
            draws := s.draws + 1
            mpc := if s.nest = 0 then .e40 else .e48
            st := if s.nest = 0 then .pollSiblings else s.st }) ∧
      (∀ l l', (l, l') ∈ [(Label.x05, Label.x06), (.x12, .x13)] → EngineAt l s →
        exec .ack1 s = .next { s with rxb := [0x06#8], events := .rx 1 .long [0x06#8] :: s.events, mpc := l' }) ∧
      (∀ l l', (l, l') ∈ [(Label.x03, Label.x04), (.x10, .x11), (.x16, .x17)] → EngineAt l s →
        exec .ack2 s =
          .next { s with rxb := [0x06#8, 0x90#8], events := .rx 2 .long [0x06#8, 0x90#8] :: s.events, mpc := l' }) ∧
      (EngineAt .e44 s →
        exec .ack2 s =
          .next { s with
            rxb := [0x06#8, 0x90#8], events := .rx 2 .short [0x06#8, 0x90#8] :: s.events, mpc := .e46 }) ∧
      (EngineAt .e47 s →
        exec .ack1 s =
          .next { s with
            rxb := [0x06#8], events := .rx 1 .long [0x06#8] :: s.events, st := .drainSettings, mpc := .e01 }) ∧
      (∀ d f, EngineAt .e21 s → s.devs[s.cur]? = some d → ∃ r : Bytes,
        IsExpected r 9 [0x82#8, 0x10#8, 0xaa#8, 0x01#8, 0x00#8] ∧ r.length = 9 ∧ r[5]? = some f ∧
          exec (.hdrReply f) s =
            .next { s with
              rxb := r
              events := .rx 9 .long r :: s.events
              devs := s.devs.set s.cur { d with skipThermostatsFlag := f.getLsbD 0 }
              st := .dataExchange
              mpc := .e22 }) ∧
      (∀ p : Bytes, p.length = 16 → EngineAt .x06 s → ∃ r : Bytes,
        IsExpected r 24 [0x82#8, 0x10#8, 0x20#8, 0x10#8, 0x02#8] ∧ r.length = 24 ∧ (r.drop 5).take 16 = p ∧
          exec (.statusReply p) s = .next { s with rxb := r, events := .rx 24 .long r :: s.events, mpc := .x07 }) ∧
      ∀ p : Bytes, p.length = 40 → EngineAt .x13 s → ∃ r : Bytes,
        IsExpected r 48 [0x82#8, 0x10#8, 0x20#8, 0x28#8, 0x06#8] ∧ r.length = 48 ∧ (r.drop 5).take 40 = p ∧
          exec (.configReply p) s =
            .next { s with rxb := r, cfg := r, events := .rx 48 .long r :: s.events, mpc := .x14 }

/-- R195: a frame that arrives where no receive is open changes nothing but the bus environment's store, and may be
delivered to a later receive or to none. -/
def Obligations.LateFramesAreHeldOrLost : Prop :=
  ∀ (s : State) (i : Instr) (q : EngineState) (r : Bytes), encode i = some (.rx q r) →
    (s.phase = .setup ∨ s.mpc ∉ receiveLabels) → ∃ store : List Bytes,
      exec i s = .next { s with busIn := store, draws := s.draws + 1 } ∧ (store = s.busIn ∨ store = s.busIn ++ [r])

/-- R227 and R228: X07 latches bytes 10, 11, 14, 15 as readings, stashes bytes 16 and 20 as setpoints of the
exchange's register set, and publishes the readings into an empty mailbox. That `RL` keeps the word once it is
published is the model's choice (notes/assumptions/29.md). -/
def Obligations.StatusReplyStashesAndPublishes : Prop :=
  ∀ (s : State) (d : RegisterSet), EngineAt .x07 s → s.devs[s.hdl]? = some d → s.rxb.length = 24 →
    ∃ out hw mix boil reduced comfort : Byte, ∃ rl : Readings,
      s.rxb[10]? = some out ∧ s.rxb[11]? = some hw ∧ s.rxb[14]? = some mix ∧ s.rxb[15]? = some boil ∧
        s.rxb[16]? = some reduced ∧ s.rxb[20]? = some comfort ∧
        rl.extractLsb' 0 8 = out ∧ rl.extractLsb' 8 8 = hw ∧ rl.extractLsb' 16 8 = mix ∧ rl.extractLsb' 24 8 = boil ∧
        exec .dataExchange s =
          .next { s with
            rl := rl
            devs := s.devs.set s.hdl { d with reducedTemp := reduced, comfortTemp := comfort }
            rm := if s.rm = none then some rl else s.rm
            events := .publish rl (decide (s.rm = none)) :: s.events
            mpc := .x08 }

/-- R232 and R233: X17 patches the configuration frame: bytes 1, 5, 6, 10, 11 and the setpoint triple at the slot's
offset take the register set's values, bytes 45 and 46 the CRC over bytes 1..44, every other byte stays; the result
is a valid message where the start and end bytes were. -/
def Obligations.ConfigPatchWritesRegisters : Prop :=
  ∀ (s : State) (d : RegisterSet), EngineAt .x17 s → s.devs[s.hdl]? = some d → slotOk d.deviceAddress = true →
    s.cfg.length = 48 → ∃ (fr : Bytes) (o : Nat),
      exec .dataExchange s = .next { s with cfg := fr, mpc := .x18 } ∧
        o = 23 + ((d.deviceAddress &&& 0x0F#8).toNat - 1) * 8 ∧ fr.length = 48 ∧
        fr[1]? = some d.deviceAddress ∧ fr[5]? = some d.measTemp ∧ fr[6]? = some d.knobSetting ∧
        fr[10]? = some d.selector ∧ fr[11]? = some d.dipSwitch ∧
        fr[o]? = some d.comfortTemp ∧ fr[o + 1]? = some d.comfortTemp ∧ fr[o + 2]? = some d.reducedTemp ∧
        fr[45]? = some (lo8 (crc16k ((fr.drop 1).take 44))) ∧ fr[46]? = some (hi8 (crc16k ((fr.drop 1).take 44))) ∧
        (∀ i, i ∉ [1, 5, 6, 10, 11, o, o + 1, o + 2, 45, 46] → fr[i]? = s.cfg[i]?) ∧
        (s.cfg[0]? = some 0x82#8 → s.cfg[47]? = some 0x03#8 → verifyMessage fr 48 = true)

/-- R234: X18 sends the frame with SPACE; X19 expects ACK1 and returns to the poll phase, or to the nested end, the
buffers `CFG` and `TXB` then free (notes/assumptions/9.md). -/
def Obligations.ConfigWriteEndsExchange : Prop :=
  ∀ s : State, s.st = .dataExchange →
    (EngineAt .x18 s → exec .dataExchange s = .next { afterTx s.cfg .space s with mpc := .x19 }) ∧
      (EngineAt .x19 s → ∃ r, MayReturn 1 r s ∧
        (r = [0x06#8] → ∃ cfg txb : Bytes, cfg.length = 48 ∧
          exec .dataExchange s =
            .next { afterRx 1 .long r s with
              cfg := cfg
              txb := txb
              draws := (afterRx 1 .long r s).draws + 1
              mpc := if s.nest = 0 then .e40 else .e48
              st := if s.nest = 0 then .pollSiblings else .dataExchange }) ∧
        (r ≠ [0x06#8] → exec .dataExchange s = .next (aborting (afterRx 1 .long r s))))

/-- R304 and R235: at E99, in whatever exchange, `nest` becomes 0, the four buffers become free values, the cycle
starts again, and nothing else changes: no register, mailbox or flag is rolled back. -/
def Obligations.AbortKeepsEverythingWritten : Prop :=
  ∀ (s : State) (i : Instr), EngineAt .e99 s → i ∈ [Instr.headerExchange, .dataExchange, .pollSiblings] →
    ∃ (rxb cfg txb : Bytes) (rl : Readings),
      exec i s =
        .next { s with
          nest := 0, st := .drainSettings, mpc := .e01, rxb := rxb, cfg := cfg, txb := txb, rl := rl,
          draws := s.draws + 1 }

/-! ### Poll siblings (42_engine.md R236 to R243) -/

/-- R236, R242, R243: E40 starts at the slot number as index; E41 ends the phase at index 8 and otherwise starts the
next address with its first transmission. -/
def Obligations.PollPhaseStartsAfterOwnSlot : Prop :=
  ∀ s : State,
    (∀ d, EngineAt .e40 s → s.devs[s.cur]? = some d →
      exec .pollSiblings s =
        .next { s with
          st := .pollSiblings, hdl := s.cur, pi := (d.deviceAddress &&& 0x0F#8).toNat, mpc := .e41 }) ∧
      (EngineAt .e41 s → s.pi = 8 → exec .pollSiblings s = .next { s with st := .drainSettings, mpc := .e01 }) ∧
      (EngineAt .e41 s → s.pi < 8 → exec .pollSiblings s = .next { s with rep := 1, mpc := .e42 }) ∧
      (EngineAt .e48 s → exec .pollSiblings s = .next { s with nest := 0, st := .drainSettings, mpc := .e01 })

/-- R237, R240: E42 sends the list's address with MARK; the listen window is RX(2, SHORT); 06 90 takes the poll reply;
any other string goes on with the next transmission, and after the fifth with the next address. -/
def Obligations.PollPhaseSendsFiveTimes : Prop :=
  ∀ s : State,
    (∀ a, EngineAt .e42 s →
      [0x21#8, 0x22#8, 0xa3#8, 0x9c#8, 0x1d#8, 0x1e#8, 0x9f#8, 0x90#8][s.pi]? = some a →
        exec .pollSiblings s = .next { afterTx [a] .mark s with mpc := .e43 }) ∧
      (EngineAt .e44 s → ∃ r, MayReturn 2 r s ∧
        exec .pollSiblings s = .next { afterRx 2 .short r s with mpc := .e45 }) ∧
      (EngineAt .e45 s → s.rxb = [0x06#8, 0x90#8] → exec .pollSiblings s = .next { s with mpc := .e46 }) ∧
      (EngineAt .e45 s → s.rxb ≠ [0x06#8, 0x90#8] → s.rep < 5 →
        exec .pollSiblings s = .next { s with rep := s.rep + 1, mpc := .e42 }) ∧
      (EngineAt .e45 s → s.rxb ≠ [0x06#8, 0x90#8] → 5 ≤ s.rep →
        exec .pollSiblings s = .next { s with rep := s.rep + 1, pi := s.pi + 1, mpc := .e41 })

/-- R238 and R239: after the second transmission of another registered device's address (and, where the parameter
says so, with the skip flag set) that device's skip flag is cleared and its data exchange is called, nested, with no
listen window; otherwise the listen window follows. -/
def Obligations.SecondSendSimulatesSibling : Prop :=
  ∀ (s : State) (a : Byte) (d : RegisterSet), EngineAt .e43 s →
    [0x21#8, 0x22#8, 0xa3#8, 0x9c#8, 0x1d#8, 0x1e#8, 0x9f#8, 0x90#8][s.pi]? = some a → s.devs[s.hdl]? = some d →
    (s.devs.map (·.pollAddress)).Nodup →
    (∀ g e, s.devs[g]? = some e → e.pollAddress = a → g ≠ s.hdl → s.rep = 2 →
      exec .pollSiblings s =
        .next (if s.params.skipGatesSiblingSim = true ∧ d.skipThermostatsFlag = false then { s with mpc := .e44 }
          else
            { s with
              devs := s.devs.set g { e with skipThermostatsFlag := false }
              outer := s.hdl
              nest := 1
              st := .dataExchange
              hdl := g
              mpc := .x01 })) ∧
      (s.rep ≠ 2 ∨ d.pollAddress = a ∨ (∀ e ∈ s.devs, e.pollAddress ≠ a) →
        exec .pollSiblings s = .next { s with mpc := .e44 })

/-- R241: E46 sends a 9-byte message with the open body of the device's address and skip flag; E47 expects ACK1 and
ends the cycle, or aborts. -/
def Obligations.PollReplyThenFinalAck : Prop :=
  ∀ s : State,
    (∀ d, EngineAt .e46 s → s.devs[s.hdl]? = some d → ∃ m held : Bytes,
      IsMessage m 9 ∧ m.length = 9 ∧
        (m.drop 1).take 5 = Config.pollReplyBody d.deviceAddress d.skipThermostatsFlag ∧
        exec .pollSiblings s = .next { afterTx m .space (afterBuild held s) with mpc := .e47 }) ∧
      (EngineAt .e47 s → ∃ r, MayReturn 1 r s ∧
        (r = [0x06#8] →
          exec .pollSiblings s = .next { afterRx 1 .long r s with st := .drainSettings, mpc := .e01 }) ∧
        (r ≠ [0x06#8] → exec .pollSiblings s = .next (aborting (afterRx 1 .long r s))))

/-! ### Steps -/

/-- A step runs what it fetches, and then the turn passes: at a host's turn the decoded command; at the engine's turn
in the run phase the row of the sequencer's position, which in a sound position is one micro-step of the program; in
the setup phase the engine takes no step. Every step at a host's turn brings the engine's turn nearer, and after the
engine's any number of host turns may follow (the model's form of R344's fairness, notes/assumptions/7.md). -/
def Obligations.StepRunsFetchedInstruction : Prop :=
  (∀ s t : State, step s = .next t → s.turn = .host → t.hostTurns + 1 = s.hostTurns) ∧
  (∀ (s : State) (w : HostWord) (q : List HostWord) (i : Instr), s.turn = .host → s.hostIn = w :: q →
      decode (.host w) = .ok i → step s = afterExec (exec i { s with hostIn := q })) ∧
    ∀ s : State, s.turn = .engine →
      (s.phase = .run → step s = afterExec (exec (engineInstr s) s)) ∧
        (s.phase = .run → PositionSound s → exec (engineInstr s) s = microStep s) ∧
        (s.phase = .setup → ∃ k : Nat, step s = .next { s with hostTurns := k, draws := s.draws + 1 })

/-- A step at an open receive, with a received frame as the answer held ready, runs that frame's instruction. E05's and
E44's frames take two micro-steps (PollRxRunsAddressFilter, ExpectedFramesAreAccepted). -/
def Obligations.StepRunsReceivedFrame : Prop :=
  ∀ (s : State) (i : Instr) (q : EngineState) (r : Bytes) (rest : List Bytes),
    s.turn = .engine → s.phase = .run → s.mpc ∈ receiveLabels → s.mpc ≠ .e05 → s.mpc ≠ .e44 →
    encode i = some (.rx q r) → s.busIn = r :: rest →
    step s = afterExec (exec i { s with busIn := rest })

/-- A step at a micro-step that sends a frame runs that frame's instruction, in a sound position. -/
def Obligations.StepRunsSentFrame : Prop :=
  ∀ s : State, s.turn = .engine → s.phase = .run → PositionSound s →
    (s.mpc ∈ [Label.x01, .x08, .x14] → step s = afterExec (exec .hsAck s)) ∧
      (s.mpc ∈ [Label.x02, .x09, .x15] → step s = afterExec (exec .hsPoll s)) ∧
      (∀ d, s.mpc = .e20 → s.devs[s.cur]? = some d → step s = afterExec (exec (.hdrAck d.pollAddress) s)) ∧
      (∀ d, s.mpc = .x04 → s.devs[s.hdl]? = some d → step s = afterExec (exec (.cmdStatus d.deviceAddress) s)) ∧
      (∀ d, s.mpc = .x11 → s.devs[s.hdl]? = some d → step s = afterExec (exec (.cmdConfig d.deviceAddress) s)) ∧
      (∀ d p, s.mpc = .x18 → s.cfg = configWriteBytes d p → step s = afterExec (exec (.configWrite d p) s)) ∧
      (∀ a, s.mpc = .e42 → pollList[s.pi]? = some a → step s = afterExec (exec (.pollTx a) s)) ∧
      ∀ d, s.mpc = .e46 → s.devs[s.hdl]? = some d →
        step s = afterExec (exec (.pollReply (Config.pollReplyBody d.deviceAddress d.skipThermostatsFlag)) s)

/-! ### The whole machine -/

/-- R283 and R52: once started, no step changes the number of register sets, an address field or a key, or leaves the
run phase. -/
def Obligations.RegistryNeverChangesAfterStart : Prop :=
  ∀ s t : State, s.phase = .run → step s = .next t →
    t.phase = .run ∧ t.count = s.count ∧ (∀ a, t.reg a = s.reg a) ∧
      t.devs.map (fun d => (d.deviceAddress, d.pollAddress, d.regulatorAddress)) =
        s.devs.map (fun d => (d.deviceAddress, d.pollAddress, d.regulatorAddress))

/-- R41: the writers of the mutable fields: settings in E02, setpoints in X07, the skip flag in E21 (selected device)
and E43 (sibling, cleared). -/
def Obligations.RegisterWriters : Prop :=
  ∀ (s t : State) (h : Nat) (d e : RegisterSet), s.Inv → step s = .next t → s.devs[h]? = some d →
    t.devs[h]? = some e → d ≠ e →
    s.turn = .engine ∧
      ((s.mpc = .e02 ∧ s.pend.head? = some h ∧ ∃ w, s.sm[h]? = some (some w) ∧ e = applied w d) ∨
        (s.mpc = .x07 ∧ s.hdl = h ∧
          ∃ r c, s.rxb[16]? = some r ∧ s.rxb[20]? = some c ∧ e = { d with reducedTemp := r, comfortTemp := c }) ∨
        (s.mpc = .e21 ∧ s.cur = h ∧
          ∃ f, t.rxb[5]? = some f ∧ e = { d with skipThermostatsFlag := f.getLsbD 0 }) ∨
        (s.mpc = .e43 ∧ s.hdl ≠ h ∧ e = { d with skipThermostatsFlag := false }))

/-- R47 and R44: in the run phase the global flags change only where E02 applies a settings value, and take its
values. -/
def Obligations.GlobalFlagsWrittenByDrainOnly : Prop :=
  ∀ s t : State, s.Inv → s.phase = .run → step s = .next t → t.flags ≠ s.flags →
    s.turn = .engine ∧ s.mpc = .e02 ∧
      ∃ h w, s.pend.head? = some h ∧ s.sm[h]? = some (some w) ∧ t.flags = appliedFlags w

/-- R217: the writers of `prev`, completely; and every step into or within an exchange leaves `prev` NONE. -/
def Obligations.PrevWriters : Prop :=
  ∀ s t : State, s.Inv → step s = .next t →
    (t.prev ≠ s.prev →
      (s.phase = .setup ∧ t.phase = .run ∧ t.prev = none) ∨
        (s.turn = .engine ∧ EngineAt .e03 s ∧ s.flags.remoteControlEnabled = false ∧ t.prev = none) ∨
        (s.turn = .engine ∧ EngineAt .e06 s ∧
          ((s.rxb = [] ∧ s.params.prevClearedOnTimeout = true ∧ t.prev = none) ∨
            (∃ b, s.rxb.head? = some b ∧ s.prev = some b ∧ (s.reg b).isSome = true ∧ t.mpc = .e20 ∧ t.prev = none) ∨
            (∃ b, s.rxb.head? = some b ∧ (s.prev ≠ some b ∨ s.reg b = none) ∧ t.mpc = .e01 ∧ t.prev = some b)))) ∧
      (t.phase = .run → t.mpc.idle = false → t.prev = none)

/-- R211 and R319: while remote control is disabled and no settings value waits, a step of the engine between cycles
touches no bus. -/
def Obligations.DormantEngineTouchesNoBus : Prop :=
  ∀ s t : State, s.Inv → s.phase = .run → s.turn = .engine → s.mpc ∈ [Label.e01, .e02, .e03, .e04] →
    s.flags.remoteControlEnabled = false → (∀ v, some v ∉ s.sm) → step s = .next t →
    t.mpc ∈ [Label.e01, .e02, .e03, .e04] ∧ t.flags = s.flags ∧ t.sm = s.sm ∧
      (t.events = s.events ∨ ∃ h, t.events = .drain h none :: s.events)

/-- What R330 and R333 state of power-up: the setup phase, no register set, no key, empty mailboxes, `st` SETUP, TX_EN
low; and in the setup phase the engine takes no step (R52). -/
def Obligations.PowerUpIsSetupPhase : Prop :=
  State.reset.phase = .setup ∧ State.reset.st = .setup ∧ State.reset.devs = [] ∧
    (∀ a, State.reset.reg a = none) ∧ State.reset.sm = [] ∧ State.reset.rm = none ∧ State.reset.txEn = false ∧
    ∀ s : State, s.phase = .setup →
      ∀ i ∈ [Instr.drainSettings, .checkRemoteEnabled, .dormant, .waitForPoll, .headerExchange, .dataExchange,
        .pollSiblings], exec i s = .next s

/-- An engine-state row is one micro-step of its state: run while the sequencer stands in another state, it is the row
run from its own entry (the model's choice, notes/assumptions/13.md). -/
def Obligations.EngineRowsStartAtTheirEntry : Prop :=
  ∀ (s : State) (q : EngineState) (entry : Label) (i : Instr),
    (q, entry, i) ∈ [(EngineState.drainSettings, Label.e01, Instr.drainSettings),
      (.checkRemoteEnabled, .e03, .checkRemoteEnabled), (.dormant, .e04, .dormant), (.waitForPoll, .e05, .waitForPoll),
      (.headerExchange, .e20, .headerExchange), (.dataExchange, .e22, .dataExchange),
      (.pollSiblings, .e40, .pollSiblings)] →
    s.phase = .run → s.mpc ≠ .e99 → s.mpc.owner s.st ≠ q → exec i s = exec i { s with st := q, mpc := entry }

/-- Power-up meets the invariant, with the parameters at the defaults of R15. The position registers' values at reset
are the model's (notes/assumptions/2.md). -/
def Obligations.ResetMeetsInvariant : Prop :=
  State.reset.Inv ∧ State.reset.params.prevClearedOnTimeout = true ∧ State.reset.params.skipGatesSiblingSim = false

/-- Every step keeps the invariant, and no step writes the parameters (00_scope.md R15, 10_state.md R30). -/
def Obligations.StepKeepsInvariant : Prop :=
  ∀ s t : State, s.Inv → step s = .next t → t.Inv ∧ t.params = s.params

/-- In a sound state the engine's step always has a next, sound state: no fault, no refusal, no halt (R199, R211); and
from every sound state, once the host agents have had their finite number of turns, that step is the next (R344; the
number is the model's, notes/assumptions/7.md). -/
def Obligations.EngineNeverStops : Prop :=
  ∀ s : State, s.Inv →
    (s.turn = .engine → ∃ t, step s = .next t ∧ t.Inv) ∧
      ∀ t, runSteps s.hostTurns s = .next t → t.turn = .engine ∧ ∃ u, step t = .next u ∧ u.Inv

/-! ### Encodings -/

/-- Decoding the word of a well-formed instruction gives that instruction, for every instruction that crosses a
port. -/
def Obligations.DecodeOfEncodeAgrees : Prop :=
  ∀ (i : Instr) (w : PortWord), i.wellFormed = true → encode i = some w → decode w = .ok i

/-- Words written out from the encodings decode to the instructions they stand for (95_test_vectors.md 2.2, 2.6). -/
def Obligations.WrittenWordsDecode : Prop :=
  decode (.host 0x100000000023A310#64) = .ok (.addInstance 0x23#8 0xA3#8 0x10#8) ∧
    decode (.host 0x300001000E29FE04#64) = .ok (.sendSettings 0x01#8 0x0E29FE04#32) ∧
    decode (.tx .headerExchange [0x06#8, 0x21#8] .space) = .ok (.hdrAck 0x21#8) ∧
    decode (.tx .dataExchange [0x82#8, 0x21#8, 0x10#8, 0x01#8, 0x02#8, 0x10#8, 0x99#8, 0xD1#8, 0x03#8] .space) =
      .ok (.cmdStatus 0x21#8) ∧
    decode (.rx .headerExchange [0x82#8, 0x10#8, 0xAA#8, 0x01#8, 0x00#8, 0x01#8, 0x86#8, 0x81#8, 0x03#8]) =
      .ok (.hdrReply 0x01#8)

/-! ### Half-degree codes (30_encoding.md R131, R132; 43_registry_mailboxes.md R290) -/

/-- R290: a temperature with a byte reads back as itself where twice it is an integer, and otherwise as the nearest
multiple of 0.5, ties upward; the DIP switch of an ignore flag is 81 or 80. -/
def Obligations.HalfDegreeRoundTrip : Prop :=
  (∀ (x : ℚ) (b : Byte), encodeDegrees x = some b →
      decodeSigned b - 1 / 4 ≤ x ∧ x < decodeSigned b + 1 / 4 ∧
        ((∃ k : ℤ, 2 * x = k) → decodeSigned b = x)) ∧
    dipByte true = 0x81#8 ∧ dipByte false = 0x80#8

/-- R289: a settings value has a word exactly where both temperatures are at least -64.25 and below 63.75, and the
word is legal and carries the fields. -/
def Obligations.SettingsWordOfThermoSettings : Prop :=
  ∀ t : ThermoSettings,
    ((∃ w, settingsWord t = some w) ↔
      (-257 / 4 ≤ t.offset ∧ t.offset < 255 / 4) ∧ (-257 / 4 ≤ t.measured ∧ t.measured < 255 / 4)) ∧
      ∀ w, settingsWord t = some w →
        settingsOk w = true ∧
          w.extractLsb' 0 8 = (match t.selector with | .timer => 0x00#8 | .comfort => 0x03#8 | .eco => 0x04#8) ∧
          (w.extractLsb' 8 8).toInt = ⌊2 * t.offset + 1 / 2⌋ ∧ (w.extractLsb' 16 8).toInt = ⌊2 * t.measured + 1 / 2⌋ ∧
          w.getLsbD 24 = t.ignoreMeasured ∧
          w.extractLsb' 25 2 = (match t.verbosity with | .off => 0#2 | .api => 1#2 | .serial => 2#2 | .both => 3#2) ∧
          w.getLsbD 27 = t.remoteControl
end

