-- ==== Sys2Proof/Laws/Codec.lean ====
section
/-! SUPPORT. What the framing operations return on the frames the controller builds. -/

namespace Sys2Proof.Machine

@[simp] theorem length_envelope (body : Bytes) : (envelope body).length = body.length + 4 := by
  simp [envelope]

/-- The body of an envelope is its covered range. -/
theorem memRead_envelope (body : Bytes) : memRead (envelope body) 1 body.length = body := by
  simp [memRead, envelope, startByte]

/-- An envelope verifies at its own length. -/
theorem verifyMessage_envelope (body : Bytes) : verifyMessage (envelope body) (body.length + 4) = true := by
  have h0 : (envelope body)[0]? = some startByte := by simp [envelope]
  have hget (j : Nat) : (envelope body)[body.length + 1 + j]? =
      ([lo8 (crc16k body), hi8 (crc16k body), endByte])[j]? := by
    have he : envelope body = (startByte :: body) ++ [lo8 (crc16k body), hi8 (crc16k body), endByte] := by
      simp [envelope]
    rw [he, List.getElem?_append_right (by simp only [List.length_cons]; omega)]
    congr 1
    simp only [List.length_cons]
    omega
  unfold verifyMessage
  rw [if_neg (by omega)]
  simp only [show body.length + 4 - 4 = body.length by omega, memRead_envelope, h0,
    show body.length + 4 - 1 = body.length + 1 + 2 by omega, show body.length + 4 - 3 = body.length + 1 + 0 by omega,
    show body.length + 4 - 2 = body.length + 1 + 1 by omega, hget]
  simp

/-- BUILD_MESSAGE on an admitted body is the envelope (40_codec.md R167). -/
theorem buildMessage_eq (body : Bytes) (n : Nat) (h : body.length + 4 = n) :
    buildMessage body n = some (envelope body) := by
  subst h
  have hm : memRead ([startByte] ++ body ++ [0x00#8, 0x00#8] ++ [endByte]) 1 body.length = body := by
    simp [memRead]
  simp only [buildMessage, crcInsert, Nat.add_sub_cancel, crcCompute, hm]
  rw [if_pos (by simp; omega), if_pos (by simp; omega), Nat.add_comm 1 body.length]
  simp [envelope]

end Sys2Proof.Machine
end

