-- ==== Sys2Proof/Laws/State.lean ====
section
/-! SUPPORT. What each state update writes and leaves: one lemma per field per update. -/

namespace Sys2Proof.Machine

/-! ### drawn -/

@[simp] theorem drawn_devs (s : State) : (drawn s).devs = s.devs := rfl
@[simp] theorem drawn_flags (s : State) : (drawn s).flags = s.flags := rfl
@[simp] theorem drawn_sm (s : State) : (drawn s).sm = s.sm := rfl
@[simp] theorem drawn_rm (s : State) : (drawn s).rm = s.rm := rfl
@[simp] theorem drawn_phase (s : State) : (drawn s).phase = s.phase := rfl
@[simp] theorem drawn_st (s : State) : (drawn s).st = s.st := rfl
@[simp] theorem drawn_mpc (s : State) : (drawn s).mpc = s.mpc := rfl
@[simp] theorem drawn_cur (s : State) : (drawn s).cur = s.cur := rfl
@[simp] theorem drawn_outer (s : State) : (drawn s).outer = s.outer := rfl
@[simp] theorem drawn_nest (s : State) : (drawn s).nest = s.nest := rfl
@[simp] theorem drawn_hdl (s : State) : (drawn s).hdl = s.hdl := rfl
@[simp] theorem drawn_dxStep (s : State) : (drawn s).dxStep = s.dxStep := rfl
@[simp] theorem drawn_pi (s : State) : (drawn s).pi = s.pi := rfl
@[simp] theorem drawn_rep (s : State) : (drawn s).rep = s.rep := rfl
@[simp] theorem drawn_pend (s : State) : (drawn s).pend = s.pend := rfl
@[simp] theorem drawn_prev (s : State) : (drawn s).prev = s.prev := rfl
@[simp] theorem drawn_rxb (s : State) : (drawn s).rxb = s.rxb := rfl
@[simp] theorem drawn_cfg (s : State) : (drawn s).cfg = s.cfg := rfl
@[simp] theorem drawn_txb (s : State) : (drawn s).txb = s.txb := rfl
@[simp] theorem drawn_rl (s : State) : (drawn s).rl = s.rl := rfl
@[simp] theorem drawn_txEn (s : State) : (drawn s).txEn = s.txEn := rfl
@[simp] theorem drawn_events (s : State) : (drawn s).events = s.events := rfl
@[simp] theorem drawn_ret (s : State) : (drawn s).ret = s.ret := rfl
@[simp] theorem drawn_hostIn (s : State) : (drawn s).hostIn = s.hostIn := rfl
@[simp] theorem drawn_busIn (s : State) : (drawn s).busIn = s.busIn := rfl
@[simp] theorem drawn_turn (s : State) : (drawn s).turn = s.turn := rfl
@[simp] theorem drawn_hostTurns (s : State) : (drawn s).hostTurns = s.hostTurns := rfl
@[simp] theorem drawn_params (s : State) : (drawn s).params = s.params := rfl
@[simp] theorem drawn_draws (s : State) : (drawn s).draws = s.draws + 1 := rfl

/-! ### record -/

@[simp] theorem record_devs (e : Event) (s : State) : (record e s).devs = s.devs := rfl
@[simp] theorem record_flags (e : Event) (s : State) : (record e s).flags = s.flags := rfl
@[simp] theorem record_sm (e : Event) (s : State) : (record e s).sm = s.sm := rfl
@[simp] theorem record_rm (e : Event) (s : State) : (record e s).rm = s.rm := rfl
@[simp] theorem record_phase (e : Event) (s : State) : (record e s).phase = s.phase := rfl
@[simp] theorem record_st (e : Event) (s : State) : (record e s).st = s.st := rfl
@[simp] theorem record_mpc (e : Event) (s : State) : (record e s).mpc = s.mpc := rfl
@[simp] theorem record_cur (e : Event) (s : State) : (record e s).cur = s.cur := rfl
@[simp] theorem record_outer (e : Event) (s : State) : (record e s).outer = s.outer := rfl
@[simp] theorem record_nest (e : Event) (s : State) : (record e s).nest = s.nest := rfl
@[simp] theorem record_hdl (e : Event) (s : State) : (record e s).hdl = s.hdl := rfl
@[simp] theorem record_dxStep (e : Event) (s : State) : (record e s).dxStep = s.dxStep := rfl
@[simp] theorem record_pi (e : Event) (s : State) : (record e s).pi = s.pi := rfl
@[simp] theorem record_rep (e : Event) (s : State) : (record e s).rep = s.rep := rfl
@[simp] theorem record_pend (e : Event) (s : State) : (record e s).pend = s.pend := rfl
@[simp] theorem record_prev (e : Event) (s : State) : (record e s).prev = s.prev := rfl
@[simp] theorem record_rxb (e : Event) (s : State) : (record e s).rxb = s.rxb := rfl
@[simp] theorem record_cfg (e : Event) (s : State) : (record e s).cfg = s.cfg := rfl
@[simp] theorem record_txb (e : Event) (s : State) : (record e s).txb = s.txb := rfl
@[simp] theorem record_rl (e : Event) (s : State) : (record e s).rl = s.rl := rfl
@[simp] theorem record_txEn (e : Event) (s : State) : (record e s).txEn = s.txEn := rfl
@[simp] theorem record_events (e : Event) (s : State) : (record e s).events = e :: s.events := rfl
@[simp] theorem record_ret (e : Event) (s : State) : (record e s).ret = s.ret := rfl
@[simp] theorem record_hostIn (e : Event) (s : State) : (record e s).hostIn = s.hostIn := rfl
@[simp] theorem record_busIn (e : Event) (s : State) : (record e s).busIn = s.busIn := rfl
@[simp] theorem record_turn (e : Event) (s : State) : (record e s).turn = s.turn := rfl
@[simp] theorem record_hostTurns (e : Event) (s : State) : (record e s).hostTurns = s.hostTurns := rfl
@[simp] theorem record_params (e : Event) (s : State) : (record e s).params = s.params := rfl
@[simp] theorem record_draws (e : Event) (s : State) : (record e s).draws = s.draws := rfl

/-! ### returning -/

@[simp] theorem returning_devs (v : ReturnValue) (s : State) : (returning v s).devs = s.devs := rfl
@[simp] theorem returning_flags (v : ReturnValue) (s : State) : (returning v s).flags = s.flags := rfl
@[simp] theorem returning_sm (v : ReturnValue) (s : State) : (returning v s).sm = s.sm := rfl
@[simp] theorem returning_rm (v : ReturnValue) (s : State) : (returning v s).rm = s.rm := rfl
@[simp] theorem returning_phase (v : ReturnValue) (s : State) : (returning v s).phase = s.phase := rfl
@[simp] theorem returning_st (v : ReturnValue) (s : State) : (returning v s).st = s.st := rfl
@[simp] theorem returning_mpc (v : ReturnValue) (s : State) : (returning v s).mpc = s.mpc := rfl
@[simp] theorem returning_cur (v : ReturnValue) (s : State) : (returning v s).cur = s.cur := rfl
@[simp] theorem returning_outer (v : ReturnValue) (s : State) : (returning v s).outer = s.outer := rfl
@[simp] theorem returning_nest (v : ReturnValue) (s : State) : (returning v s).nest = s.nest := rfl
@[simp] theorem returning_hdl (v : ReturnValue) (s : State) : (returning v s).hdl = s.hdl := rfl
@[simp] theorem returning_dxStep (v : ReturnValue) (s : State) : (returning v s).dxStep = s.dxStep := rfl
@[simp] theorem returning_pi (v : ReturnValue) (s : State) : (returning v s).pi = s.pi := rfl
@[simp] theorem returning_rep (v : ReturnValue) (s : State) : (returning v s).rep = s.rep := rfl
@[simp] theorem returning_pend (v : ReturnValue) (s : State) : (returning v s).pend = s.pend := rfl
@[simp] theorem returning_prev (v : ReturnValue) (s : State) : (returning v s).prev = s.prev := rfl
@[simp] theorem returning_rxb (v : ReturnValue) (s : State) : (returning v s).rxb = s.rxb := rfl
@[simp] theorem returning_cfg (v : ReturnValue) (s : State) : (returning v s).cfg = s.cfg := rfl
@[simp] theorem returning_txb (v : ReturnValue) (s : State) : (returning v s).txb = s.txb := rfl
@[simp] theorem returning_rl (v : ReturnValue) (s : State) : (returning v s).rl = s.rl := rfl
@[simp] theorem returning_txEn (v : ReturnValue) (s : State) : (returning v s).txEn = s.txEn := rfl
@[simp] theorem returning_events (v : ReturnValue) (s : State) : (returning v s).events = s.events := rfl
@[simp] theorem returning_ret (v : ReturnValue) (s : State) : (returning v s).ret = v := rfl
@[simp] theorem returning_hostIn (v : ReturnValue) (s : State) : (returning v s).hostIn = s.hostIn := rfl
@[simp] theorem returning_busIn (v : ReturnValue) (s : State) : (returning v s).busIn = s.busIn := rfl
@[simp] theorem returning_turn (v : ReturnValue) (s : State) : (returning v s).turn = s.turn := rfl
@[simp] theorem returning_hostTurns (v : ReturnValue) (s : State) : (returning v s).hostTurns = s.hostTurns := rfl
@[simp] theorem returning_params (v : ReturnValue) (s : State) : (returning v s).params = s.params := rfl
@[simp] theorem returning_draws (v : ReturnValue) (s : State) : (returning v s).draws = s.draws := rfl

/-! ### updateDev -/

@[simp] theorem updateDev_devs (h : Nat) (f : RegisterSet → RegisterSet) (s : State) : (updateDev h f s).devs = s.devs.modify h f := rfl
@[simp] theorem updateDev_flags (h : Nat) (f : RegisterSet → RegisterSet) (s : State) : (updateDev h f s).flags = s.flags := rfl
@[simp] theorem updateDev_sm (h : Nat) (f : RegisterSet → RegisterSet) (s : State) : (updateDev h f s).sm = s.sm := rfl
@[simp] theorem updateDev_rm (h : Nat) (f : RegisterSet → RegisterSet) (s : State) : (updateDev h f s).rm = s.rm := rfl
@[simp] theorem updateDev_phase (h : Nat) (f : RegisterSet → RegisterSet) (s : State) : (updateDev h f s).phase = s.phase := rfl
@[simp] theorem updateDev_st (h : Nat) (f : RegisterSet → RegisterSet) (s : State) : (updateDev h f s).st = s.st := rfl
@[simp] theorem updateDev_mpc (h : Nat) (f : RegisterSet → RegisterSet) (s : State) : (updateDev h f s).mpc = s.mpc := rfl
@[simp] theorem updateDev_cur (h : Nat) (f : RegisterSet → RegisterSet) (s : State) : (updateDev h f s).cur = s.cur := rfl
@[simp] theorem updateDev_outer (h : Nat) (f : RegisterSet → RegisterSet) (s : State) : (updateDev h f s).outer = s.outer := rfl
@[simp] theorem updateDev_nest (h : Nat) (f : RegisterSet → RegisterSet) (s : State) : (updateDev h f s).nest = s.nest := rfl
@[simp] theorem updateDev_hdl (h : Nat) (f : RegisterSet → RegisterSet) (s : State) : (updateDev h f s).hdl = s.hdl := rfl
@[simp] theorem updateDev_dxStep (h : Nat) (f : RegisterSet → RegisterSet) (s : State) : (updateDev h f s).dxStep = s.dxStep := rfl
@[simp] theorem updateDev_pi (h : Nat) (f : RegisterSet → RegisterSet) (s : State) : (updateDev h f s).pi = s.pi := rfl
@[simp] theorem updateDev_rep (h : Nat) (f : RegisterSet → RegisterSet) (s : State) : (updateDev h f s).rep = s.rep := rfl
@[simp] theorem updateDev_pend (h : Nat) (f : RegisterSet → RegisterSet) (s : State) : (updateDev h f s).pend = s.pend := rfl
@[simp] theorem updateDev_prev (h : Nat) (f : RegisterSet → RegisterSet) (s : State) : (updateDev h f s).prev = s.prev := rfl
@[simp] theorem updateDev_rxb (h : Nat) (f : RegisterSet → RegisterSet) (s : State) : (updateDev h f s).rxb = s.rxb := rfl
@[simp] theorem updateDev_cfg (h : Nat) (f : RegisterSet → RegisterSet) (s : State) : (updateDev h f s).cfg = s.cfg := rfl
@[simp] theorem updateDev_txb (h : Nat) (f : RegisterSet → RegisterSet) (s : State) : (updateDev h f s).txb = s.txb := rfl
@[simp] theorem updateDev_rl (h : Nat) (f : RegisterSet → RegisterSet) (s : State) : (updateDev h f s).rl = s.rl := rfl
@[simp] theorem updateDev_txEn (h : Nat) (f : RegisterSet → RegisterSet) (s : State) : (updateDev h f s).txEn = s.txEn := rfl
@[simp] theorem updateDev_events (h : Nat) (f : RegisterSet → RegisterSet) (s : State) : (updateDev h f s).events = s.events := rfl
@[simp] theorem updateDev_ret (h : Nat) (f : RegisterSet → RegisterSet) (s : State) : (updateDev h f s).ret = s.ret := rfl
@[simp] theorem updateDev_hostIn (h : Nat) (f : RegisterSet → RegisterSet) (s : State) : (updateDev h f s).hostIn = s.hostIn := rfl
@[simp] theorem updateDev_busIn (h : Nat) (f : RegisterSet → RegisterSet) (s : State) : (updateDev h f s).busIn = s.busIn := rfl
@[simp] theorem updateDev_turn (h : Nat) (f : RegisterSet → RegisterSet) (s : State) : (updateDev h f s).turn = s.turn := rfl
@[simp] theorem updateDev_hostTurns (h : Nat) (f : RegisterSet → RegisterSet) (s : State) : (updateDev h f s).hostTurns = s.hostTurns := rfl
@[simp] theorem updateDev_params (h : Nat) (f : RegisterSet → RegisterSet) (s : State) : (updateDev h f s).params = s.params := rfl
@[simp] theorem updateDev_draws (h : Nat) (f : RegisterSet → RegisterSet) (s : State) : (updateDev h f s).draws = s.draws := rfl

/-! ### jump -/

@[simp] theorem jump_devs (l : Label) (s : State) : (jump l s).devs = s.devs := rfl
@[simp] theorem jump_flags (l : Label) (s : State) : (jump l s).flags = s.flags := rfl
@[simp] theorem jump_sm (l : Label) (s : State) : (jump l s).sm = s.sm := rfl
@[simp] theorem jump_rm (l : Label) (s : State) : (jump l s).rm = s.rm := rfl
@[simp] theorem jump_phase (l : Label) (s : State) : (jump l s).phase = s.phase := rfl
@[simp] theorem jump_st (l : Label) (s : State) : (jump l s).st = l.entryState.getD s.st := rfl
@[simp] theorem jump_mpc (l : Label) (s : State) : (jump l s).mpc = l := rfl
@[simp] theorem jump_cur (l : Label) (s : State) : (jump l s).cur = s.cur := rfl
@[simp] theorem jump_outer (l : Label) (s : State) : (jump l s).outer = s.outer := rfl
@[simp] theorem jump_nest (l : Label) (s : State) : (jump l s).nest = s.nest := rfl
@[simp] theorem jump_hdl (l : Label) (s : State) : (jump l s).hdl = s.hdl := rfl
@[simp] theorem jump_dxStep (l : Label) (s : State) : (jump l s).dxStep = s.dxStep := rfl
@[simp] theorem jump_pi (l : Label) (s : State) : (jump l s).pi = s.pi := rfl
@[simp] theorem jump_rep (l : Label) (s : State) : (jump l s).rep = s.rep := rfl
@[simp] theorem jump_pend (l : Label) (s : State) : (jump l s).pend = s.pend := rfl
@[simp] theorem jump_prev (l : Label) (s : State) : (jump l s).prev = s.prev := rfl
@[simp] theorem jump_rxb (l : Label) (s : State) : (jump l s).rxb = s.rxb := rfl
@[simp] theorem jump_cfg (l : Label) (s : State) : (jump l s).cfg = s.cfg := rfl
@[simp] theorem jump_txb (l : Label) (s : State) : (jump l s).txb = s.txb := rfl
@[simp] theorem jump_rl (l : Label) (s : State) : (jump l s).rl = s.rl := rfl
@[simp] theorem jump_txEn (l : Label) (s : State) : (jump l s).txEn = s.txEn := rfl
@[simp] theorem jump_events (l : Label) (s : State) : (jump l s).events = s.events := rfl
@[simp] theorem jump_ret (l : Label) (s : State) : (jump l s).ret = s.ret := rfl
@[simp] theorem jump_hostIn (l : Label) (s : State) : (jump l s).hostIn = s.hostIn := rfl
@[simp] theorem jump_busIn (l : Label) (s : State) : (jump l s).busIn = s.busIn := rfl
@[simp] theorem jump_turn (l : Label) (s : State) : (jump l s).turn = s.turn := rfl
@[simp] theorem jump_hostTurns (l : Label) (s : State) : (jump l s).hostTurns = s.hostTurns := rfl
@[simp] theorem jump_params (l : Label) (s : State) : (jump l s).params = s.params := rfl
@[simp] theorem jump_draws (l : Label) (s : State) : (jump l s).draws = s.draws := rfl

/-! ### nextTurn -/

@[simp] theorem nextTurn_devs (s : State) : (nextTurn s).devs = s.devs := rfl
@[simp] theorem nextTurn_flags (s : State) : (nextTurn s).flags = s.flags := rfl
@[simp] theorem nextTurn_sm (s : State) : (nextTurn s).sm = s.sm := rfl
@[simp] theorem nextTurn_rm (s : State) : (nextTurn s).rm = s.rm := rfl
@[simp] theorem nextTurn_phase (s : State) : (nextTurn s).phase = s.phase := rfl
@[simp] theorem nextTurn_st (s : State) : (nextTurn s).st = s.st := rfl
@[simp] theorem nextTurn_mpc (s : State) : (nextTurn s).mpc = s.mpc := rfl
@[simp] theorem nextTurn_cur (s : State) : (nextTurn s).cur = s.cur := rfl
@[simp] theorem nextTurn_outer (s : State) : (nextTurn s).outer = s.outer := rfl
@[simp] theorem nextTurn_nest (s : State) : (nextTurn s).nest = s.nest := rfl
@[simp] theorem nextTurn_hdl (s : State) : (nextTurn s).hdl = s.hdl := rfl
@[simp] theorem nextTurn_dxStep (s : State) : (nextTurn s).dxStep = s.dxStep := rfl
@[simp] theorem nextTurn_pi (s : State) : (nextTurn s).pi = s.pi := rfl
@[simp] theorem nextTurn_rep (s : State) : (nextTurn s).rep = s.rep := rfl
@[simp] theorem nextTurn_pend (s : State) : (nextTurn s).pend = s.pend := rfl
@[simp] theorem nextTurn_prev (s : State) : (nextTurn s).prev = s.prev := rfl
@[simp] theorem nextTurn_rxb (s : State) : (nextTurn s).rxb = s.rxb := rfl
@[simp] theorem nextTurn_cfg (s : State) : (nextTurn s).cfg = s.cfg := rfl
@[simp] theorem nextTurn_txb (s : State) : (nextTurn s).txb = s.txb := rfl
@[simp] theorem nextTurn_rl (s : State) : (nextTurn s).rl = s.rl := rfl
@[simp] theorem nextTurn_txEn (s : State) : (nextTurn s).txEn = s.txEn := rfl
@[simp] theorem nextTurn_events (s : State) : (nextTurn s).events = s.events := rfl
@[simp] theorem nextTurn_ret (s : State) : (nextTurn s).ret = s.ret := rfl
@[simp] theorem nextTurn_hostIn (s : State) : (nextTurn s).hostIn = s.hostIn := rfl
@[simp] theorem nextTurn_busIn (s : State) : (nextTurn s).busIn = s.busIn := rfl
@[simp] theorem nextTurn_hostTurns (s : State) :
    (nextTurn s).hostTurns = if s.hostTurns = 0 then Config.hostTurns s.draws else s.hostTurns - 1 := rfl
@[simp] theorem nextTurn_params (s : State) : (nextTurn s).params = s.params := rfl
@[simp] theorem nextTurn_draws (s : State) :
    (nextTurn s).draws = if s.hostTurns = 0 then s.draws + 1 else s.draws := rfl

/-! ### sendReadings -/

@[simp] theorem sendReadings_devs (v : Readings) (s : State) : (sendReadings v s).devs = s.devs := rfl
@[simp] theorem sendReadings_flags (v : Readings) (s : State) : (sendReadings v s).flags = s.flags := rfl
@[simp] theorem sendReadings_sm (v : Readings) (s : State) : (sendReadings v s).sm = s.sm := rfl
@[simp] theorem sendReadings_rm (v : Readings) (s : State) : (sendReadings v s).rm = slotSend s.rm v := rfl
@[simp] theorem sendReadings_phase (v : Readings) (s : State) : (sendReadings v s).phase = s.phase := rfl
@[simp] theorem sendReadings_st (v : Readings) (s : State) : (sendReadings v s).st = s.st := rfl
@[simp] theorem sendReadings_mpc (v : Readings) (s : State) : (sendReadings v s).mpc = s.mpc := rfl
@[simp] theorem sendReadings_cur (v : Readings) (s : State) : (sendReadings v s).cur = s.cur := rfl
@[simp] theorem sendReadings_outer (v : Readings) (s : State) : (sendReadings v s).outer = s.outer := rfl
@[simp] theorem sendReadings_nest (v : Readings) (s : State) : (sendReadings v s).nest = s.nest := rfl
@[simp] theorem sendReadings_hdl (v : Readings) (s : State) : (sendReadings v s).hdl = s.hdl := rfl
@[simp] theorem sendReadings_dxStep (v : Readings) (s : State) : (sendReadings v s).dxStep = s.dxStep := rfl
@[simp] theorem sendReadings_pi (v : Readings) (s : State) : (sendReadings v s).pi = s.pi := rfl
@[simp] theorem sendReadings_rep (v : Readings) (s : State) : (sendReadings v s).rep = s.rep := rfl
@[simp] theorem sendReadings_pend (v : Readings) (s : State) : (sendReadings v s).pend = s.pend := rfl
@[simp] theorem sendReadings_prev (v : Readings) (s : State) : (sendReadings v s).prev = s.prev := rfl
@[simp] theorem sendReadings_rxb (v : Readings) (s : State) : (sendReadings v s).rxb = s.rxb := rfl
@[simp] theorem sendReadings_cfg (v : Readings) (s : State) : (sendReadings v s).cfg = s.cfg := rfl
@[simp] theorem sendReadings_txb (v : Readings) (s : State) : (sendReadings v s).txb = s.txb := rfl
@[simp] theorem sendReadings_rl (v : Readings) (s : State) : (sendReadings v s).rl = s.rl := rfl
@[simp] theorem sendReadings_txEn (v : Readings) (s : State) : (sendReadings v s).txEn = s.txEn := rfl
@[simp] theorem sendReadings_events (v : Readings) (s : State) : (sendReadings v s).events = s.events := rfl
@[simp] theorem sendReadings_ret (v : Readings) (s : State) : (sendReadings v s).ret = s.ret := rfl
@[simp] theorem sendReadings_hostIn (v : Readings) (s : State) : (sendReadings v s).hostIn = s.hostIn := rfl
@[simp] theorem sendReadings_busIn (v : Readings) (s : State) : (sendReadings v s).busIn = s.busIn := rfl
@[simp] theorem sendReadings_turn (v : Readings) (s : State) : (sendReadings v s).turn = s.turn := rfl
@[simp] theorem sendReadings_hostTurns (v : Readings) (s : State) : (sendReadings v s).hostTurns = s.hostTurns := rfl
@[simp] theorem sendReadings_params (v : Readings) (s : State) : (sendReadings v s).params = s.params := rfl
@[simp] theorem sendReadings_draws (v : Readings) (s : State) : (sendReadings v s).draws = s.draws := rfl

/-! ### takeReadings -/

@[simp] theorem takeReadings_devs (s : State) : (takeReadings s).devs = s.devs := rfl
@[simp] theorem takeReadings_flags (s : State) : (takeReadings s).flags = s.flags := rfl
@[simp] theorem takeReadings_sm (s : State) : (takeReadings s).sm = s.sm := rfl
@[simp] theorem takeReadings_rm (s : State) : (takeReadings s).rm = none := rfl
@[simp] theorem takeReadings_phase (s : State) : (takeReadings s).phase = s.phase := rfl
@[simp] theorem takeReadings_st (s : State) : (takeReadings s).st = s.st := rfl
@[simp] theorem takeReadings_mpc (s : State) : (takeReadings s).mpc = s.mpc := rfl
@[simp] theorem takeReadings_cur (s : State) : (takeReadings s).cur = s.cur := rfl
@[simp] theorem takeReadings_outer (s : State) : (takeReadings s).outer = s.outer := rfl
@[simp] theorem takeReadings_nest (s : State) : (takeReadings s).nest = s.nest := rfl
@[simp] theorem takeReadings_hdl (s : State) : (takeReadings s).hdl = s.hdl := rfl
@[simp] theorem takeReadings_dxStep (s : State) : (takeReadings s).dxStep = s.dxStep := rfl
@[simp] theorem takeReadings_pi (s : State) : (takeReadings s).pi = s.pi := rfl
@[simp] theorem takeReadings_rep (s : State) : (takeReadings s).rep = s.rep := rfl
@[simp] theorem takeReadings_pend (s : State) : (takeReadings s).pend = s.pend := rfl
@[simp] theorem takeReadings_prev (s : State) : (takeReadings s).prev = s.prev := rfl
@[simp] theorem takeReadings_rxb (s : State) : (takeReadings s).rxb = s.rxb := rfl
@[simp] theorem takeReadings_cfg (s : State) : (takeReadings s).cfg = s.cfg := rfl
@[simp] theorem takeReadings_txb (s : State) : (takeReadings s).txb = s.txb := rfl
@[simp] theorem takeReadings_rl (s : State) : (takeReadings s).rl = s.rl := rfl
@[simp] theorem takeReadings_txEn (s : State) : (takeReadings s).txEn = s.txEn := rfl
@[simp] theorem takeReadings_events (s : State) : (takeReadings s).events = s.events := rfl
@[simp] theorem takeReadings_ret (s : State) : (takeReadings s).ret = s.ret := rfl
@[simp] theorem takeReadings_hostIn (s : State) : (takeReadings s).hostIn = s.hostIn := rfl
@[simp] theorem takeReadings_busIn (s : State) : (takeReadings s).busIn = s.busIn := rfl
@[simp] theorem takeReadings_turn (s : State) : (takeReadings s).turn = s.turn := rfl
@[simp] theorem takeReadings_hostTurns (s : State) : (takeReadings s).hostTurns = s.hostTurns := rfl
@[simp] theorem takeReadings_params (s : State) : (takeReadings s).params = s.params := rfl
@[simp] theorem takeReadings_draws (s : State) : (takeReadings s).draws = s.draws := rfl

/-! ### sendSettingsTo -/

@[simp] theorem sendSettingsTo_devs (h : Nat) (v : Settings) (s : State) : (sendSettingsTo h v s).devs = s.devs := rfl
@[simp] theorem sendSettingsTo_flags (h : Nat) (v : Settings) (s : State) : (sendSettingsTo h v s).flags = s.flags := rfl
@[simp] theorem sendSettingsTo_sm (h : Nat) (v : Settings) (s : State) : (sendSettingsTo h v s).sm = s.sm.modify h fun slot => slotSend slot v := rfl
@[simp] theorem sendSettingsTo_rm (h : Nat) (v : Settings) (s : State) : (sendSettingsTo h v s).rm = s.rm := rfl
@[simp] theorem sendSettingsTo_phase (h : Nat) (v : Settings) (s : State) : (sendSettingsTo h v s).phase = s.phase := rfl
@[simp] theorem sendSettingsTo_st (h : Nat) (v : Settings) (s : State) : (sendSettingsTo h v s).st = s.st := rfl
@[simp] theorem sendSettingsTo_mpc (h : Nat) (v : Settings) (s : State) : (sendSettingsTo h v s).mpc = s.mpc := rfl
@[simp] theorem sendSettingsTo_cur (h : Nat) (v : Settings) (s : State) : (sendSettingsTo h v s).cur = s.cur := rfl
@[simp] theorem sendSettingsTo_outer (h : Nat) (v : Settings) (s : State) : (sendSettingsTo h v s).outer = s.outer := rfl
@[simp] theorem sendSettingsTo_nest (h : Nat) (v : Settings) (s : State) : (sendSettingsTo h v s).nest = s.nest := rfl
@[simp] theorem sendSettingsTo_hdl (h : Nat) (v : Settings) (s : State) : (sendSettingsTo h v s).hdl = s.hdl := rfl
@[simp] theorem sendSettingsTo_dxStep (h : Nat) (v : Settings) (s : State) : (sendSettingsTo h v s).dxStep = s.dxStep := rfl
@[simp] theorem sendSettingsTo_pi (h : Nat) (v : Settings) (s : State) : (sendSettingsTo h v s).pi = s.pi := rfl
@[simp] theorem sendSettingsTo_rep (h : Nat) (v : Settings) (s : State) : (sendSettingsTo h v s).rep = s.rep := rfl
@[simp] theorem sendSettingsTo_pend (h : Nat) (v : Settings) (s : State) : (sendSettingsTo h v s).pend = s.pend := rfl
@[simp] theorem sendSettingsTo_prev (h : Nat) (v : Settings) (s : State) : (sendSettingsTo h v s).prev = s.prev := rfl
@[simp] theorem sendSettingsTo_rxb (h : Nat) (v : Settings) (s : State) : (sendSettingsTo h v s).rxb = s.rxb := rfl
@[simp] theorem sendSettingsTo_cfg (h : Nat) (v : Settings) (s : State) : (sendSettingsTo h v s).cfg = s.cfg := rfl
@[simp] theorem sendSettingsTo_txb (h : Nat) (v : Settings) (s : State) : (sendSettingsTo h v s).txb = s.txb := rfl
@[simp] theorem sendSettingsTo_rl (h : Nat) (v : Settings) (s : State) : (sendSettingsTo h v s).rl = s.rl := rfl
@[simp] theorem sendSettingsTo_txEn (h : Nat) (v : Settings) (s : State) : (sendSettingsTo h v s).txEn = s.txEn := rfl
@[simp] theorem sendSettingsTo_events (h : Nat) (v : Settings) (s : State) : (sendSettingsTo h v s).events = s.events := rfl
@[simp] theorem sendSettingsTo_ret (h : Nat) (v : Settings) (s : State) : (sendSettingsTo h v s).ret = s.ret := rfl
@[simp] theorem sendSettingsTo_hostIn (h : Nat) (v : Settings) (s : State) : (sendSettingsTo h v s).hostIn = s.hostIn := rfl
@[simp] theorem sendSettingsTo_busIn (h : Nat) (v : Settings) (s : State) : (sendSettingsTo h v s).busIn = s.busIn := rfl
@[simp] theorem sendSettingsTo_turn (h : Nat) (v : Settings) (s : State) : (sendSettingsTo h v s).turn = s.turn := rfl
@[simp] theorem sendSettingsTo_hostTurns (h : Nat) (v : Settings) (s : State) : (sendSettingsTo h v s).hostTurns = s.hostTurns := rfl
@[simp] theorem sendSettingsTo_params (h : Nat) (v : Settings) (s : State) : (sendSettingsTo h v s).params = s.params := rfl
@[simp] theorem sendSettingsTo_draws (h : Nat) (v : Settings) (s : State) : (sendSettingsTo h v s).draws = s.draws := rfl

/-! ### takeSettings -/

@[simp] theorem takeSettings_devs (h : Nat) (s : State) : (takeSettings h s).devs = s.devs := rfl
@[simp] theorem takeSettings_flags (h : Nat) (s : State) : (takeSettings h s).flags = s.flags := rfl
@[simp] theorem takeSettings_sm (h : Nat) (s : State) : (takeSettings h s).sm = s.sm.set h none := rfl
@[simp] theorem takeSettings_rm (h : Nat) (s : State) : (takeSettings h s).rm = s.rm := rfl
@[simp] theorem takeSettings_phase (h : Nat) (s : State) : (takeSettings h s).phase = s.phase := rfl
@[simp] theorem takeSettings_st (h : Nat) (s : State) : (takeSettings h s).st = s.st := rfl
@[simp] theorem takeSettings_mpc (h : Nat) (s : State) : (takeSettings h s).mpc = s.mpc := rfl
@[simp] theorem takeSettings_cur (h : Nat) (s : State) : (takeSettings h s).cur = s.cur := rfl
@[simp] theorem takeSettings_outer (h : Nat) (s : State) : (takeSettings h s).outer = s.outer := rfl
@[simp] theorem takeSettings_nest (h : Nat) (s : State) : (takeSettings h s).nest = s.nest := rfl
@[simp] theorem takeSettings_hdl (h : Nat) (s : State) : (takeSettings h s).hdl = s.hdl := rfl
@[simp] theorem takeSettings_dxStep (h : Nat) (s : State) : (takeSettings h s).dxStep = s.dxStep := rfl
@[simp] theorem takeSettings_pi (h : Nat) (s : State) : (takeSettings h s).pi = s.pi := rfl
@[simp] theorem takeSettings_rep (h : Nat) (s : State) : (takeSettings h s).rep = s.rep := rfl
@[simp] theorem takeSettings_pend (h : Nat) (s : State) : (takeSettings h s).pend = s.pend := rfl
@[simp] theorem takeSettings_prev (h : Nat) (s : State) : (takeSettings h s).prev = s.prev := rfl
@[simp] theorem takeSettings_rxb (h : Nat) (s : State) : (takeSettings h s).rxb = s.rxb := rfl
@[simp] theorem takeSettings_cfg (h : Nat) (s : State) : (takeSettings h s).cfg = s.cfg := rfl
@[simp] theorem takeSettings_txb (h : Nat) (s : State) : (takeSettings h s).txb = s.txb := rfl
@[simp] theorem takeSettings_rl (h : Nat) (s : State) : (takeSettings h s).rl = s.rl := rfl
@[simp] theorem takeSettings_txEn (h : Nat) (s : State) : (takeSettings h s).txEn = s.txEn := rfl
@[simp] theorem takeSettings_events (h : Nat) (s : State) : (takeSettings h s).events = s.events := rfl
@[simp] theorem takeSettings_ret (h : Nat) (s : State) : (takeSettings h s).ret = s.ret := rfl
@[simp] theorem takeSettings_hostIn (h : Nat) (s : State) : (takeSettings h s).hostIn = s.hostIn := rfl
@[simp] theorem takeSettings_busIn (h : Nat) (s : State) : (takeSettings h s).busIn = s.busIn := rfl
@[simp] theorem takeSettings_turn (h : Nat) (s : State) : (takeSettings h s).turn = s.turn := rfl
@[simp] theorem takeSettings_hostTurns (h : Nat) (s : State) : (takeSettings h s).hostTurns = s.hostTurns := rfl
@[simp] theorem takeSettings_params (h : Nat) (s : State) : (takeSettings h s).params = s.params := rfl
@[simp] theorem takeSettings_draws (h : Nat) (s : State) : (takeSettings h s).draws = s.draws := rfl

end Sys2Proof.Machine
end

