-- ==== Sys2Proof/Laws/Ops.lean ====
section
/-! SUPPORT. What each shared operation does, said once, for the proofs to cite. -/

namespace Sys2Proof.Machine

/-! ### Whose turn it is (00_scope.md R13, 70_reset_and_hazards.md R344) -/

theorem turn_engine_iff {s : State} : s.turn = .engine ↔ s.hostTurns = 0 := by
  unfold State.turn; split <;> simp_all

theorem turn_host_iff {s : State} : s.turn = .host ↔ 0 < s.hostTurns := by
  unfold State.turn; split <;> simp_all [Nat.pos_iff_ne_zero]

/-- A host turn is used up. -/
theorem nextTurn_host {s : State} (h : s.turn = .host) : nextTurn s = { s with hostTurns := s.hostTurns - 1 } := by
  simp [nextTurn, Nat.ne_of_gt (turn_host_iff.1 h)]

/-- After the engine's step the number of host turns is free. -/
theorem nextTurn_engine {s : State} (h : s.turn = .engine) :
    nextTurn s = { drawn s with hostTurns := Config.hostTurns s.draws } := by
  simp [nextTurn, drawn, turn_engine_iff.1 h]

/-- A step that has a next state ends with the turn passed. -/
theorem afterExec_next {o : Out} {t : State} (h : afterExec o = .next t) : ∃ u, o = .next u ∧ t = nextTurn u := by
  cases o with
  | next u => exact ⟨u, rfl, by simpa [afterExec] using h.symm⟩
  | fault f => cases h
  | refused r => cases h

/-! ### A burst (41_transport.md R190) -/

@[simp] theorem txBurst_devs (b : Bytes) (p : Parity) (s : State) : (txBurst b p s).devs = s.devs := rfl
@[simp] theorem txBurst_flags (b : Bytes) (p : Parity) (s : State) : (txBurst b p s).flags = s.flags := rfl
@[simp] theorem txBurst_sm (b : Bytes) (p : Parity) (s : State) : (txBurst b p s).sm = s.sm := rfl
@[simp] theorem txBurst_rm (b : Bytes) (p : Parity) (s : State) : (txBurst b p s).rm = s.rm := rfl
@[simp] theorem txBurst_phase (b : Bytes) (p : Parity) (s : State) : (txBurst b p s).phase = s.phase := rfl
@[simp] theorem txBurst_st (b : Bytes) (p : Parity) (s : State) : (txBurst b p s).st = s.st := rfl
@[simp] theorem txBurst_mpc (b : Bytes) (p : Parity) (s : State) : (txBurst b p s).mpc = s.mpc := rfl
@[simp] theorem txBurst_cur (b : Bytes) (p : Parity) (s : State) : (txBurst b p s).cur = s.cur := rfl
@[simp] theorem txBurst_outer (b : Bytes) (p : Parity) (s : State) : (txBurst b p s).outer = s.outer := rfl
@[simp] theorem txBurst_nest (b : Bytes) (p : Parity) (s : State) : (txBurst b p s).nest = s.nest := rfl
@[simp] theorem txBurst_hdl (b : Bytes) (p : Parity) (s : State) : (txBurst b p s).hdl = s.hdl := rfl
@[simp] theorem txBurst_dxStep (b : Bytes) (p : Parity) (s : State) : (txBurst b p s).dxStep = s.dxStep := rfl
@[simp] theorem txBurst_pi (b : Bytes) (p : Parity) (s : State) : (txBurst b p s).pi = s.pi := rfl
@[simp] theorem txBurst_rep (b : Bytes) (p : Parity) (s : State) : (txBurst b p s).rep = s.rep := rfl
@[simp] theorem txBurst_pend (b : Bytes) (p : Parity) (s : State) : (txBurst b p s).pend = s.pend := rfl
@[simp] theorem txBurst_prev (b : Bytes) (p : Parity) (s : State) : (txBurst b p s).prev = s.prev := rfl
@[simp] theorem txBurst_rxb (b : Bytes) (p : Parity) (s : State) : (txBurst b p s).rxb = s.rxb := rfl
@[simp] theorem txBurst_cfg (b : Bytes) (p : Parity) (s : State) : (txBurst b p s).cfg = s.cfg := rfl
@[simp] theorem txBurst_txb (b : Bytes) (p : Parity) (s : State) : (txBurst b p s).txb = s.txb := rfl
@[simp] theorem txBurst_rl (b : Bytes) (p : Parity) (s : State) : (txBurst b p s).rl = s.rl := rfl
@[simp] theorem txBurst_txEn (b : Bytes) (p : Parity) (s : State) : (txBurst b p s).txEn = false := rfl
@[simp] theorem txBurst_events (b : Bytes) (p : Parity) (s : State) : (txBurst b p s).events = .txBurst b p :: s.events := rfl
@[simp] theorem txBurst_ret (b : Bytes) (p : Parity) (s : State) : (txBurst b p s).ret = s.ret := rfl
@[simp] theorem txBurst_hostIn (b : Bytes) (p : Parity) (s : State) : (txBurst b p s).hostIn = s.hostIn := rfl
@[simp] theorem txBurst_busIn (b : Bytes) (p : Parity) (s : State) : (txBurst b p s).busIn = s.busIn := rfl
@[simp] theorem txBurst_turn (b : Bytes) (p : Parity) (s : State) : (txBurst b p s).turn = s.turn := rfl
@[simp] theorem txBurst_hostTurns (b : Bytes) (p : Parity) (s : State) : (txBurst b p s).hostTurns = s.hostTurns := rfl
@[simp] theorem txBurst_params (b : Bytes) (p : Parity) (s : State) : (txBurst b p s).params = s.params := rfl
@[simp] theorem txBurst_draws (b : Bytes) (p : Parity) (s : State) : (txBurst b p s).draws = s.draws := rfl

/-! ### A message built (10_state.md R54) -/

@[simp] theorem buildFrame_devs (b : Bytes) (s : State) : (buildFrame b s).devs = s.devs := rfl
@[simp] theorem buildFrame_flags (b : Bytes) (s : State) : (buildFrame b s).flags = s.flags := rfl
@[simp] theorem buildFrame_sm (b : Bytes) (s : State) : (buildFrame b s).sm = s.sm := rfl
@[simp] theorem buildFrame_rm (b : Bytes) (s : State) : (buildFrame b s).rm = s.rm := rfl
@[simp] theorem buildFrame_phase (b : Bytes) (s : State) : (buildFrame b s).phase = s.phase := rfl
@[simp] theorem buildFrame_st (b : Bytes) (s : State) : (buildFrame b s).st = s.st := rfl
@[simp] theorem buildFrame_mpc (b : Bytes) (s : State) : (buildFrame b s).mpc = s.mpc := rfl
@[simp] theorem buildFrame_cur (b : Bytes) (s : State) : (buildFrame b s).cur = s.cur := rfl
@[simp] theorem buildFrame_outer (b : Bytes) (s : State) : (buildFrame b s).outer = s.outer := rfl
@[simp] theorem buildFrame_nest (b : Bytes) (s : State) : (buildFrame b s).nest = s.nest := rfl
@[simp] theorem buildFrame_hdl (b : Bytes) (s : State) : (buildFrame b s).hdl = s.hdl := rfl
@[simp] theorem buildFrame_dxStep (b : Bytes) (s : State) : (buildFrame b s).dxStep = s.dxStep := rfl
@[simp] theorem buildFrame_pi (b : Bytes) (s : State) : (buildFrame b s).pi = s.pi := rfl
@[simp] theorem buildFrame_rep (b : Bytes) (s : State) : (buildFrame b s).rep = s.rep := rfl
@[simp] theorem buildFrame_pend (b : Bytes) (s : State) : (buildFrame b s).pend = s.pend := rfl
@[simp] theorem buildFrame_prev (b : Bytes) (s : State) : (buildFrame b s).prev = s.prev := rfl
@[simp] theorem buildFrame_rxb (b : Bytes) (s : State) : (buildFrame b s).rxb = s.rxb := rfl
@[simp] theorem buildFrame_cfg (b : Bytes) (s : State) : (buildFrame b s).cfg = s.cfg := rfl
@[simp] theorem buildFrame_txb (b : Bytes) (s : State) : (buildFrame b s).txb = if s.st = .dataExchange then b else Config.freeTxb s.draws := rfl
@[simp] theorem buildFrame_rl (b : Bytes) (s : State) : (buildFrame b s).rl = s.rl := rfl
@[simp] theorem buildFrame_txEn (b : Bytes) (s : State) : (buildFrame b s).txEn = s.txEn := rfl
@[simp] theorem buildFrame_events (b : Bytes) (s : State) : (buildFrame b s).events = s.events := rfl
@[simp] theorem buildFrame_ret (b : Bytes) (s : State) : (buildFrame b s).ret = s.ret := rfl
@[simp] theorem buildFrame_hostIn (b : Bytes) (s : State) : (buildFrame b s).hostIn = s.hostIn := rfl
@[simp] theorem buildFrame_busIn (b : Bytes) (s : State) : (buildFrame b s).busIn = s.busIn := rfl
@[simp] theorem buildFrame_turn (b : Bytes) (s : State) : (buildFrame b s).turn = s.turn := rfl
@[simp] theorem buildFrame_hostTurns (b : Bytes) (s : State) : (buildFrame b s).hostTurns = s.hostTurns := rfl
@[simp] theorem buildFrame_params (b : Bytes) (s : State) : (buildFrame b s).params = s.params := rfl
@[simp] theorem buildFrame_draws (b : Bytes) (s : State) : (buildFrame b s).draws = s.draws + 1 := rfl
@[simp] theorem buildFrame_standsAt (b : Bytes) (s : State) (l : List Label) : (buildFrame b s).standsAt l = s.standsAt l := rfl

/-! ### A receive (41_transport.md R193) -/

@[simp] theorem receive_devs (n : Nat) (t : Tier) (s : State) : (receive n t s).devs = s.devs := by
  unfold receive nextAnswer; split <;> rfl
@[simp] theorem receive_flags (n : Nat) (t : Tier) (s : State) : (receive n t s).flags = s.flags := by
  unfold receive nextAnswer; split <;> rfl
@[simp] theorem receive_sm (n : Nat) (t : Tier) (s : State) : (receive n t s).sm = s.sm := by
  unfold receive nextAnswer; split <;> rfl
@[simp] theorem receive_rm (n : Nat) (t : Tier) (s : State) : (receive n t s).rm = s.rm := by
  unfold receive nextAnswer; split <;> rfl
@[simp] theorem receive_phase (n : Nat) (t : Tier) (s : State) : (receive n t s).phase = s.phase := by
  unfold receive nextAnswer; split <;> rfl
@[simp] theorem receive_st (n : Nat) (t : Tier) (s : State) : (receive n t s).st = s.st := by
  unfold receive nextAnswer; split <;> rfl
@[simp] theorem receive_mpc (n : Nat) (t : Tier) (s : State) : (receive n t s).mpc = s.mpc := by
  unfold receive nextAnswer; split <;> rfl
@[simp] theorem receive_cur (n : Nat) (t : Tier) (s : State) : (receive n t s).cur = s.cur := by
  unfold receive nextAnswer; split <;> rfl
@[simp] theorem receive_outer (n : Nat) (t : Tier) (s : State) : (receive n t s).outer = s.outer := by
  unfold receive nextAnswer; split <;> rfl
@[simp] theorem receive_nest (n : Nat) (t : Tier) (s : State) : (receive n t s).nest = s.nest := by
  unfold receive nextAnswer; split <;> rfl
@[simp] theorem receive_hdl (n : Nat) (t : Tier) (s : State) : (receive n t s).hdl = s.hdl := by
  unfold receive nextAnswer; split <;> rfl
@[simp] theorem receive_dxStep (n : Nat) (t : Tier) (s : State) : (receive n t s).dxStep = s.dxStep := by
  unfold receive nextAnswer; split <;> rfl
@[simp] theorem receive_pi (n : Nat) (t : Tier) (s : State) : (receive n t s).pi = s.pi := by
  unfold receive nextAnswer; split <;> rfl
@[simp] theorem receive_rep (n : Nat) (t : Tier) (s : State) : (receive n t s).rep = s.rep := by
  unfold receive nextAnswer; split <;> rfl
@[simp] theorem receive_pend (n : Nat) (t : Tier) (s : State) : (receive n t s).pend = s.pend := by
  unfold receive nextAnswer; split <;> rfl
@[simp] theorem receive_prev (n : Nat) (t : Tier) (s : State) : (receive n t s).prev = s.prev := by
  unfold receive nextAnswer; split <;> rfl
@[simp] theorem receive_rxb (n : Nat) (t : Tier) (s : State) : (receive n t s).rxb = received n s := rfl
@[simp] theorem receive_cfg (n : Nat) (t : Tier) (s : State) : (receive n t s).cfg = s.cfg := by
  unfold receive nextAnswer; split <;> rfl
@[simp] theorem receive_txb (n : Nat) (t : Tier) (s : State) : (receive n t s).txb = s.txb := by
  unfold receive nextAnswer; split <;> rfl
@[simp] theorem receive_rl (n : Nat) (t : Tier) (s : State) : (receive n t s).rl = s.rl := by
  unfold receive nextAnswer; split <;> rfl
@[simp] theorem receive_txEn (n : Nat) (t : Tier) (s : State) : (receive n t s).txEn = s.txEn := by
  unfold receive nextAnswer; split <;> rfl
@[simp] theorem receive_events (n : Nat) (t : Tier) (s : State) : (receive n t s).events = .rx n t (received n s) :: s.events := by
  unfold receive nextAnswer; split <;> rfl
@[simp] theorem receive_ret (n : Nat) (t : Tier) (s : State) : (receive n t s).ret = s.ret := by
  unfold receive nextAnswer; split <;> rfl
@[simp] theorem receive_hostIn (n : Nat) (t : Tier) (s : State) : (receive n t s).hostIn = s.hostIn := by
  unfold receive nextAnswer; split <;> rfl
@[simp] theorem receive_turn (n : Nat) (t : Tier) (s : State) : (receive n t s).turn = s.turn := by
  unfold receive nextAnswer; split <;> rfl
@[simp] theorem receive_hostTurns (n : Nat) (t : Tier) (s : State) : (receive n t s).hostTurns = s.hostTurns := by
  unfold receive nextAnswer; split <;> rfl
@[simp] theorem receive_params (n : Nat) (t : Tier) (s : State) : (receive n t s).params = s.params := by
  unfold receive nextAnswer; split <;> rfl

/-- A receive returns at most `n` bytes. -/
theorem received_length_le (n : Nat) (s : State) : (received n s).length ≤ n := by
  unfold received; exact List.length_take_le n _

/-- The answer held ready is the one returned. -/
@[simp] theorem received_cons (n : Nat) (s : State) (r : Bytes) (q : List Bytes) :
    received n { s with busIn := r :: q } = r.take n := rfl

/-- A receive whose answer is held ready. -/
theorem receive_cons (n : Nat) (t : Tier) (s : State) (r : Bytes) (q : List Bytes) :
    receive n t { s with busIn := r :: q } =
      { s with busIn := q, rxb := r.take n, events := .rx n t (r.take n) :: s.events } := rfl

/-! ### The sequencer's pass (42_engine.md R245) -/

@[simp] theorem advance_devs (s : State) : (advance s).devs = s.devs := rfl
@[simp] theorem advance_flags (s : State) : (advance s).flags = s.flags := rfl
@[simp] theorem advance_sm (s : State) : (advance s).sm = s.sm := rfl
@[simp] theorem advance_rm (s : State) : (advance s).rm = s.rm := rfl
@[simp] theorem advance_phase (s : State) : (advance s).phase = s.phase := rfl
@[simp] theorem advance_st (s : State) : (advance s).st = s.mpc.following.entryState.getD s.st := rfl
@[simp] theorem advance_mpc (s : State) : (advance s).mpc = s.mpc.following := rfl
@[simp] theorem advance_cur (s : State) : (advance s).cur = s.cur := rfl
@[simp] theorem advance_outer (s : State) : (advance s).outer = s.outer := rfl
@[simp] theorem advance_nest (s : State) : (advance s).nest = s.nest := rfl
@[simp] theorem advance_hdl (s : State) : (advance s).hdl = s.hdl := rfl
@[simp] theorem advance_dxStep (s : State) : (advance s).dxStep = s.mpc.opensStep.getD s.dxStep := rfl
@[simp] theorem advance_pi (s : State) : (advance s).pi = s.pi := rfl
@[simp] theorem advance_rep (s : State) : (advance s).rep = s.rep := rfl
@[simp] theorem advance_pend (s : State) : (advance s).pend = s.pend := rfl
@[simp] theorem advance_prev (s : State) : (advance s).prev = s.prev := rfl
@[simp] theorem advance_rxb (s : State) : (advance s).rxb = s.rxb := rfl
@[simp] theorem advance_cfg (s : State) : (advance s).cfg = s.cfg := rfl
@[simp] theorem advance_txb (s : State) : (advance s).txb = s.txb := rfl
@[simp] theorem advance_rl (s : State) : (advance s).rl = s.rl := rfl
@[simp] theorem advance_txEn (s : State) : (advance s).txEn = s.txEn := rfl
@[simp] theorem advance_events (s : State) : (advance s).events = s.events := rfl
@[simp] theorem advance_ret (s : State) : (advance s).ret = s.ret := rfl
@[simp] theorem advance_hostIn (s : State) : (advance s).hostIn = s.hostIn := rfl
@[simp] theorem advance_busIn (s : State) : (advance s).busIn = s.busIn := rfl
@[simp] theorem advance_turn (s : State) : (advance s).turn = s.turn := rfl
@[simp] theorem advance_hostTurns (s : State) : (advance s).hostTurns = s.hostTurns := rfl
@[simp] theorem advance_params (s : State) : (advance s).params = s.params := rfl
@[simp] theorem advance_draws (s : State) : (advance s).draws = s.draws := rfl

/-- A frame sent from a micro-step that sends it. -/
theorem sendFrame_pass (l : List Label) (b : Bytes) (p : Parity) (s : State) (h : s.standsAt l = true) :
    sendFrame l b p s = advance (txBurst b p s) := by
  simp [sendFrame, h]

/-- A frame sent from elsewhere: the burst alone. -/
theorem sendFrame_stay (l : List Label) (b : Bytes) (p : Parity) (s : State) (h : s.standsAt l = false) :
    sendFrame l b p s = txBurst b p s := by
  simp [sendFrame, h]

@[simp] theorem sendFrame_devs (l : List Label) (b : Bytes) (p : Parity) (s : State) : (sendFrame l b p s).devs = s.devs := by
  unfold sendFrame; split <;> rfl
@[simp] theorem sendFrame_flags (l : List Label) (b : Bytes) (p : Parity) (s : State) : (sendFrame l b p s).flags = s.flags := by
  unfold sendFrame; split <;> rfl
@[simp] theorem sendFrame_sm (l : List Label) (b : Bytes) (p : Parity) (s : State) : (sendFrame l b p s).sm = s.sm := by
  unfold sendFrame; split <;> rfl
@[simp] theorem sendFrame_rm (l : List Label) (b : Bytes) (p : Parity) (s : State) : (sendFrame l b p s).rm = s.rm := by
  unfold sendFrame; split <;> rfl
@[simp] theorem sendFrame_phase (l : List Label) (b : Bytes) (p : Parity) (s : State) : (sendFrame l b p s).phase = s.phase := by
  unfold sendFrame; split <;> rfl
@[simp] theorem sendFrame_cur (l : List Label) (b : Bytes) (p : Parity) (s : State) : (sendFrame l b p s).cur = s.cur := by
  unfold sendFrame; split <;> rfl
@[simp] theorem sendFrame_outer (l : List Label) (b : Bytes) (p : Parity) (s : State) : (sendFrame l b p s).outer = s.outer := by
  unfold sendFrame; split <;> rfl
@[simp] theorem sendFrame_nest (l : List Label) (b : Bytes) (p : Parity) (s : State) : (sendFrame l b p s).nest = s.nest := by
  unfold sendFrame; split <;> rfl
@[simp] theorem sendFrame_hdl (l : List Label) (b : Bytes) (p : Parity) (s : State) : (sendFrame l b p s).hdl = s.hdl := by
  unfold sendFrame; split <;> rfl
@[simp] theorem sendFrame_pi (l : List Label) (b : Bytes) (p : Parity) (s : State) : (sendFrame l b p s).pi = s.pi := by
  unfold sendFrame; split <;> rfl
@[simp] theorem sendFrame_rep (l : List Label) (b : Bytes) (p : Parity) (s : State) : (sendFrame l b p s).rep = s.rep := by
  unfold sendFrame; split <;> rfl
@[simp] theorem sendFrame_pend (l : List Label) (b : Bytes) (p : Parity) (s : State) : (sendFrame l b p s).pend = s.pend := by
  unfold sendFrame; split <;> rfl
@[simp] theorem sendFrame_prev (l : List Label) (b : Bytes) (p : Parity) (s : State) : (sendFrame l b p s).prev = s.prev := by
  unfold sendFrame; split <;> rfl
@[simp] theorem sendFrame_rxb (l : List Label) (b : Bytes) (p : Parity) (s : State) : (sendFrame l b p s).rxb = s.rxb := by
  unfold sendFrame; split <;> rfl
@[simp] theorem sendFrame_cfg (l : List Label) (b : Bytes) (p : Parity) (s : State) : (sendFrame l b p s).cfg = s.cfg := by
  unfold sendFrame; split <;> rfl
@[simp] theorem sendFrame_rl (l : List Label) (b : Bytes) (p : Parity) (s : State) : (sendFrame l b p s).rl = s.rl := by
  unfold sendFrame; split <;> rfl
@[simp] theorem sendFrame_txEn (l : List Label) (b : Bytes) (p : Parity) (s : State) : (sendFrame l b p s).txEn = false := by
  unfold sendFrame; split <;> rfl
@[simp] theorem sendFrame_events (l : List Label) (b : Bytes) (p : Parity) (s : State) : (sendFrame l b p s).events = .txBurst b p :: s.events := by
  unfold sendFrame; split <;> rfl
@[simp] theorem sendFrame_ret (l : List Label) (b : Bytes) (p : Parity) (s : State) : (sendFrame l b p s).ret = s.ret := by
  unfold sendFrame; split <;> rfl
@[simp] theorem sendFrame_hostIn (l : List Label) (b : Bytes) (p : Parity) (s : State) : (sendFrame l b p s).hostIn = s.hostIn := by
  unfold sendFrame; split <;> rfl
@[simp] theorem sendFrame_busIn (l : List Label) (b : Bytes) (p : Parity) (s : State) : (sendFrame l b p s).busIn = s.busIn := by
  unfold sendFrame; split <;> rfl
@[simp] theorem sendFrame_turn (l : List Label) (b : Bytes) (p : Parity) (s : State) : (sendFrame l b p s).turn = s.turn := by
  unfold sendFrame; split <;> rfl
@[simp] theorem sendFrame_hostTurns (l : List Label) (b : Bytes) (p : Parity) (s : State) : (sendFrame l b p s).hostTurns = s.hostTurns := by
  unfold sendFrame; split <;> rfl
@[simp] theorem sendFrame_params (l : List Label) (b : Bytes) (p : Parity) (s : State) : (sendFrame l b p s).params = s.params := by
  unfold sendFrame; split <;> rfl
@[simp] theorem sendFrame_txb (l : List Label) (b : Bytes) (p : Parity) (s : State) : (sendFrame l b p s).txb = s.txb := by
  unfold sendFrame; split <;> rfl
@[simp] theorem sendFrame_draws (l : List Label) (b : Bytes) (p : Parity) (s : State) : (sendFrame l b p s).draws = s.draws := by
  unfold sendFrame; split <;> rfl

/-- A message sent is built and then sent as a frame. -/
@[simp] theorem sendMessage_eq (l : List Label) (b : Bytes) (s : State) :
    sendMessage l b s = sendFrame l b .space (buildFrame b s) := rfl

/-! ### The abort (60_exceptions.md R304) -/

@[simp] theorem abortEntry_devs (s : State) : (abortEntry s).devs = s.devs := rfl
@[simp] theorem abortEntry_flags (s : State) : (abortEntry s).flags = s.flags := rfl
@[simp] theorem abortEntry_sm (s : State) : (abortEntry s).sm = s.sm := rfl
@[simp] theorem abortEntry_rm (s : State) : (abortEntry s).rm = s.rm := rfl
@[simp] theorem abortEntry_phase (s : State) : (abortEntry s).phase = s.phase := rfl
@[simp] theorem abortEntry_st (s : State) : (abortEntry s).st = .drainSettings := rfl
@[simp] theorem abortEntry_mpc (s : State) : (abortEntry s).mpc = .e01 := rfl
@[simp] theorem abortEntry_cur (s : State) : (abortEntry s).cur = s.cur := rfl
@[simp] theorem abortEntry_outer (s : State) : (abortEntry s).outer = s.outer := rfl
@[simp] theorem abortEntry_nest (s : State) : (abortEntry s).nest = 0 := rfl
@[simp] theorem abortEntry_hdl (s : State) : (abortEntry s).hdl = s.hdl := rfl
@[simp] theorem abortEntry_dxStep (s : State) : (abortEntry s).dxStep = s.dxStep := rfl
@[simp] theorem abortEntry_pi (s : State) : (abortEntry s).pi = s.pi := rfl
@[simp] theorem abortEntry_rep (s : State) : (abortEntry s).rep = s.rep := rfl
@[simp] theorem abortEntry_pend (s : State) : (abortEntry s).pend = s.pend := rfl
@[simp] theorem abortEntry_prev (s : State) : (abortEntry s).prev = s.prev := rfl
@[simp] theorem abortEntry_rxb (s : State) : (abortEntry s).rxb = (Config.freeRxb s.draws).take 48 := rfl
@[simp] theorem abortEntry_cfg (s : State) : (abortEntry s).cfg = List.ofFn (Config.freeCfg s.draws) := rfl
@[simp] theorem abortEntry_txb (s : State) : (abortEntry s).txb = Config.freeTxb s.draws := rfl
@[simp] theorem abortEntry_rl (s : State) : (abortEntry s).rl = Config.freeRl s.draws := rfl
@[simp] theorem abortEntry_txEn (s : State) : (abortEntry s).txEn = s.txEn := rfl
@[simp] theorem abortEntry_events (s : State) : (abortEntry s).events = s.events := rfl
@[simp] theorem abortEntry_ret (s : State) : (abortEntry s).ret = s.ret := rfl
@[simp] theorem abortEntry_hostIn (s : State) : (abortEntry s).hostIn = s.hostIn := rfl
@[simp] theorem abortEntry_busIn (s : State) : (abortEntry s).busIn = s.busIn := rfl
@[simp] theorem abortEntry_turn (s : State) : (abortEntry s).turn = s.turn := rfl
@[simp] theorem abortEntry_hostTurns (s : State) : (abortEntry s).hostTurns = s.hostTurns := rfl
@[simp] theorem abortEntry_params (s : State) : (abortEntry s).params = s.params := rfl
@[simp] theorem abortEntry_draws (s : State) : (abortEntry s).draws = s.draws + 1 := rfl

@[simp] theorem raiseAbort_devs (s : State) : (raiseAbort s).devs = s.devs := rfl
@[simp] theorem raiseAbort_flags (s : State) : (raiseAbort s).flags = s.flags := rfl
@[simp] theorem raiseAbort_sm (s : State) : (raiseAbort s).sm = s.sm := rfl
@[simp] theorem raiseAbort_rm (s : State) : (raiseAbort s).rm = s.rm := rfl
@[simp] theorem raiseAbort_phase (s : State) : (raiseAbort s).phase = s.phase := rfl
@[simp] theorem raiseAbort_st (s : State) : (raiseAbort s).st = s.st := rfl
@[simp] theorem raiseAbort_mpc (s : State) : (raiseAbort s).mpc = .e99 := rfl
@[simp] theorem raiseAbort_cur (s : State) : (raiseAbort s).cur = s.cur := rfl
@[simp] theorem raiseAbort_outer (s : State) : (raiseAbort s).outer = s.outer := rfl
@[simp] theorem raiseAbort_nest (s : State) : (raiseAbort s).nest = s.nest := rfl
@[simp] theorem raiseAbort_hdl (s : State) : (raiseAbort s).hdl = s.hdl := rfl
@[simp] theorem raiseAbort_dxStep (s : State) : (raiseAbort s).dxStep = s.dxStep := rfl
@[simp] theorem raiseAbort_pi (s : State) : (raiseAbort s).pi = s.pi := rfl
@[simp] theorem raiseAbort_rep (s : State) : (raiseAbort s).rep = s.rep := rfl
@[simp] theorem raiseAbort_pend (s : State) : (raiseAbort s).pend = s.pend := rfl
@[simp] theorem raiseAbort_prev (s : State) : (raiseAbort s).prev = s.prev := rfl
@[simp] theorem raiseAbort_rxb (s : State) : (raiseAbort s).rxb = s.rxb := rfl
@[simp] theorem raiseAbort_cfg (s : State) : (raiseAbort s).cfg = s.cfg := rfl
@[simp] theorem raiseAbort_txb (s : State) : (raiseAbort s).txb = s.txb := rfl
@[simp] theorem raiseAbort_rl (s : State) : (raiseAbort s).rl = s.rl := rfl
@[simp] theorem raiseAbort_txEn (s : State) : (raiseAbort s).txEn = s.txEn := rfl
@[simp] theorem raiseAbort_events (s : State) : (raiseAbort s).events = s.events := rfl
@[simp] theorem raiseAbort_ret (s : State) : (raiseAbort s).ret = s.ret := rfl
@[simp] theorem raiseAbort_hostIn (s : State) : (raiseAbort s).hostIn = s.hostIn := rfl
@[simp] theorem raiseAbort_busIn (s : State) : (raiseAbort s).busIn = s.busIn := rfl
@[simp] theorem raiseAbort_turn (s : State) : (raiseAbort s).turn = s.turn := rfl
@[simp] theorem raiseAbort_hostTurns (s : State) : (raiseAbort s).hostTurns = s.hostTurns := rfl
@[simp] theorem raiseAbort_params (s : State) : (raiseAbort s).params = s.params := rfl
@[simp] theorem raiseAbort_draws (s : State) : (raiseAbort s).draws = s.draws := rfl

/-! ### Checked receives (42_engine.md R222 to R224) -/

theorem verifyReply_iff (r : Bytes) (e : AckLen) : verifyReply r e = true ↔ r = ackBytes e := by
  simp [verifyReply]

/-- An acknowledgement receive accepts the acknowledgement and aborts on anything else. -/
theorem expectAck_eq (e : AckLen) (s : State) :
    expectAck e s =
      if received (ackBytes e).length s = ackBytes e then .ok (receive (ackBytes e).length .long s)
      else .abort (receive (ackBytes e).length .long s) := by
  simp only [expectAck, receive_rxb]
  by_cases h : received (ackBytes e).length s = ackBytes e
  · simp [h, verifyReply]
  · have hv : verifyReply (received (ackBytes e).length s) e = false := by
      simpa [verifyReply] using h
    simp [h, hv]

/-- What a message receive accepts: the full length, the envelope, the header. -/
def accepts (length : Nat) (header r : Bytes) : Bool :=
  length ≤ r.length && verifyMessage r length && r.take 5 == header

/-- A message receive accepts what `accepts` says and aborts on anything else. -/
theorem expectMsg_eq (length : Nat) (header : Bytes) (s : State) :
    expectMsg length header s =
      if accepts length header (received length s) then .ok (receive length .long s)
      else .abort (receive length .long s) := by
  simp only [expectMsg, receive_rxb, accepts]
  by_cases h1 : length ≤ (received length s).length
  · by_cases h2 : verifyMessage (received length s) length = true
    · by_cases h3 : (received length s).take 5 = header
      · simp [h1, h2, h3]
      · simp [h1, h2, h3]
    · simp [h2]
  · simp [h1, Nat.lt_of_not_le h1]

/-- An outcome of a checked receive that is a next state: accepted and gone on, or aborted. -/
theorem andThen_next {c : Checked} {k : State → State} {t : State} (h : c.andThen k = .next t) :
    (∃ u, c = .ok u ∧ t = k u) ∨ (∃ u, c = .abort u ∧ t = raiseAbort u) := by
  cases c with
  | ok u => left; exact ⟨u, rfl, by simpa [Checked.andThen] using h.symm⟩
  | abort u => right; exact ⟨u, rfl, by simpa [Checked.andThen] using h.symm⟩

/-! ### Lookups -/

/-- A next state reached through a register set that had to exist. -/
theorem withDev_next {s : State} {h : Nat} {k : RegisterSet → Out} {t : State} (hn : withDev s h k = .next t) :
    ∃ d, s.devs[h]? = some d ∧ k d = .next t := by
  unfold withDev at hn
  split at hn
  · exact ⟨_, ‹_›, hn⟩
  · cases hn

/-- A next state reached through a poll-list entry that had to exist. -/
theorem withPollEntry_next {s : State} {k : Byte → Out} {t : State} (hn : withPollEntry s k = .next t) :
    ∃ a, pollList[s.pi]? = some a ∧ k a = .next t := by
  unfold withPollEntry at hn
  split at hn
  · exact ⟨_, ‹_›, hn⟩
  · cases hn

/-- `reg(a)` is a handle whose register set has the poll address `a` (00_scope.md R20). -/
theorem reg_some {s : State} {a : Byte} {h : Nat} (hr : s.reg a = some h) :
    ∃ d, s.devs[h]? = some d ∧ d.pollAddress = a := by
  unfold State.reg at hr
  rw [List.findIdx?_eq_some_iff_getElem] at hr
  obtain ⟨hlt, hp, -⟩ := hr
  exact ⟨s.devs[h], by simp [hlt], by simpa using hp⟩

/-- `reg(a)` is none exactly where no register set has the poll address `a` (00_scope.md R20). -/
theorem reg_none {s : State} {a : Byte} : s.reg a = none ↔ ∀ d ∈ s.devs, d.pollAddress ≠ a := by
  simp [State.reg, List.findIdx?_eq_none_iff]

/-! ### Mailboxes (43_registry_mailboxes.md R285, R286) -/

@[simp] theorem slotSend_none (v : BitVec 32) : slotSend none v = some v := rfl
@[simp] theorem slotSend_some (w v : BitVec 32) : slotSend (some w) v = some w := rfl

/-- A publication stores into an empty readings mailbox only, and records which it was (R292). -/
theorem publish_eq (v : Readings) (s : State) :
    publish v s = { s with rm := some (s.rm.getD v), events := .publish v s.rm.isNone :: s.events } := by
  simp only [publish, record, sendReadings]
  cases s.rm <;> rfl

/-- A changed register set, where it exists. -/
theorem updateDev_eq (h : Nat) (f : RegisterSet → RegisterSet) (s : State) (d : RegisterSet) (hd : s.devs[h]? = some d) :
    updateDev h f s = { s with devs := s.devs.set h (f d) } := by
  obtain ⟨hlt, rfl⟩ := List.getElem?_eq_some_iff.1 hd
  simp [updateDev, List.modify_eq_set_getElem?, hd]

/-- Settings applied to a register set that exists (R288). -/
theorem applySettingsTo_eq (h : Nat) (v : Settings) (s : State) (d : RegisterSet) (hd : s.devs[h]? = some d) :
    applySettingsTo h v s = { s with devs := s.devs.set h (applyToRegisters v d), flags := settingsFlags v } := by
  simp [applySettingsTo, updateDev_eq h _ s d hd]

/-- The handshake: two bursts, then the acknowledgement receive (42_engine.md R222). -/
theorem handshake_eq (s : State) :
    handshake s = expectAck .two (txBurst [0x90#8] .mark (txBurst [0x06#8] .space s)) := rfl

end Sys2Proof.Machine
end

