-- ==== Sys2Proof/Laws/PerInstr.lean ====
section
/-! SUPPORT. A law of every instruction: what it puts on the bus is a short string or a valid message
(30_encoding.md R110). -/

namespace Sys2Proof.Laws.EncodedFrameIsValid

open Sys2Proof Sys2Proof.Machine

/-- The bytes of a bus string. -/
def busBytes : PortWord → Option Bytes
  | .host _ => none
  | .tx _ s _ => some s
  | .rx _ r => some r

/-- A string of 1 or 2 bytes, or a message of 9, 24 or 48 bytes that verifies. -/
def FrameValid (s : Bytes) : Prop :=
  s.length = 1 ∨ s.length = 2 ∨
    ((s.length = 9 ∨ s.length = 24 ∨ s.length = 48) ∧ verifyMessage s s.length = true)

/-- The bus string of a well-formed instruction, where it has one, is valid. -/
def Statement (i : Instr) : Prop :=
  i.wellFormed = true → ∀ w s, encode i = some w → busBytes w = some s → FrameValid s

theorem frameValid_envelope (body : Bytes) (h : body.length = 5 ∨ body.length = 20 ∨ body.length = 44) :
    FrameValid (envelope body) :=
  .inr (.inr ⟨by rw [length_envelope]; omega, by rw [length_envelope]; exact verifyMessage_envelope body⟩)

theorem of_none {i : Instr} (h : encode i = none) : Statement i := by
  intro _ w s hw
  rw [h] at hw
  cases hw

theorem of_host {i : Instr} {v : HostWord} (h : encode i = some (.host v)) : Statement i := by
  intro _ w s hw hs
  rw [h] at hw
  cases hw
  cases hs

theorem of_tx {i : Instr} {q : EngineState} {b : Bytes} {p : Parity} (h : encode i = some (.tx q b p))
    (hv : i.wellFormed = true → FrameValid b) : Statement i := by
  intro hi w s hw hs
  rw [h] at hw
  cases hw
  cases hs
  exact hv hi

theorem of_rx {i : Instr} {q : EngineState} {b : Bytes} (h : encode i = some (.rx q b))
    (hv : i.wellFormed = true → FrameValid b) : Statement i := by
  intro hi w s hw hs
  rw [h] at hw
  cases hw
  cases hs
  exact hv hi

theorem addInstance (d p r : Byte) : Statement (.addInstance d p r) := of_host rfl
theorem start : Statement .start := of_host rfl
theorem sendSettings (h : Byte) (v : Settings) : Statement (.sendSettings h v) := of_host rfl
theorem receiveReadings : Statement .receiveReadings := of_host rfl
theorem pollTx (a : Byte) : Statement (.pollTx a) := of_tx rfl fun _ => .inl rfl
theorem hsAck : Statement .hsAck := of_tx rfl fun _ => .inl rfl
theorem hsPoll : Statement .hsPoll := of_tx rfl fun _ => .inl rfl
theorem hdrAck (a : Byte) : Statement (.hdrAck a) := of_tx rfl fun _ => .inr (.inl rfl)
theorem cmdStatus (d : Byte) : Statement (.cmdStatus d) := of_tx rfl fun _ => frameValid_envelope _ (.inl rfl)
theorem cmdConfig (d : Byte) : Statement (.cmdConfig d) := of_tx rfl fun _ => frameValid_envelope _ (.inl rfl)
theorem configWrite (d : Byte) (p : Bytes) : Statement (.configWrite d p) :=
  of_tx rfl fun h => frameValid_envelope _ (.inr (.inr (by simp [Instr.wellFormed] at h; simp [h.2])))
theorem pollReply (b : Bytes) : Statement (.pollReply b) :=
  of_tx rfl fun h => frameValid_envelope _ (.inl (by simpa [Instr.wellFormed] using h))
theorem pollRx (b : Byte) : Statement (.pollRx b) := of_rx rfl fun _ => .inl rfl
theorem ack1 : Statement .ack1 := of_rx rfl fun _ => .inl rfl
theorem ack2 : Statement .ack2 := of_rx rfl fun _ => .inr (.inl rfl)
theorem hdrReply (f : Byte) : Statement (.hdrReply f) := of_rx rfl fun _ => frameValid_envelope _ (.inl rfl)
theorem statusReply (p : Bytes) : Statement (.statusReply p) :=
  of_rx rfl fun h =>
    frameValid_envelope _ (.inr (.inl (by simp [Instr.wellFormed] at h; simp [statusReplyHeader, h])))
theorem configReply (p : Bytes) : Statement (.configReply p) :=
  of_rx rfl fun h =>
    frameValid_envelope _ (.inr (.inr (by simp [Instr.wellFormed] at h; simp [configReplyHeader, h])))
theorem crcCompute (b : Bytes) (k n : Nat) : Statement (.crcCompute b k n) := of_none rfl
theorem crcInsert (b : Bytes) (k n : Nat) : Statement (.crcInsert b k n) := of_none rfl
theorem verifyMessage (b : Bytes) (n : Nat) : Statement (.verifyMessage b n) := of_none rfl
theorem verifyReply (b : Bytes) (e : AckLen) : Statement (.verifyReply b e) := of_none rfl
theorem buildMessage (b : Bytes) (n : Nat) : Statement (.buildMessage b n) := of_none rfl
theorem evenParityAddr (a : BitVec 7) : Statement (.evenParityAddr a) := of_none rfl
theorem parityOk (b : Byte) : Statement (.parityOk b) := of_none rfl
theorem slotOffset (d : Byte) : Statement (.slotOffset d) := of_none rfl
theorem tx (b : Bytes) (p : Parity) : Statement (.tx b p) := of_none rfl
theorem rx (n : Nat) (t : Tier) : Statement (.rx n t) := of_none rfl
theorem trySend (m : Mailbox) (v : BitVec 32) : Statement (.trySend m v) := of_none rfl
theorem tryRecv (m : Mailbox) : Statement (.tryRecv m) := of_none rfl
theorem applySettings (h : Nat) (v : Settings) : Statement (.applySettings h v) := of_none rfl
theorem publishReadings (r : Readings) : Statement (.publishReadings r) := of_none rfl
theorem handshake : Statement .handshake := of_none rfl
theorem expectAck1 : Statement .expectAck1 := of_none rfl
theorem expectMsg (n : Nat) (h : Bytes) : Statement (.expectMsg n h) := of_none rfl
theorem sendMsg (b : Bytes) (n : Nat) : Statement (.sendMsg b n) := of_none rfl
theorem drainSettings : Statement .drainSettings := of_none rfl
theorem checkRemoteEnabled : Statement .checkRemoteEnabled := of_none rfl
theorem dormant : Statement .dormant := of_none rfl
theorem waitForPoll : Statement .waitForPoll := of_none rfl
theorem headerExchange : Statement .headerExchange := of_none rfl
theorem dataExchange : Statement .dataExchange := of_none rfl
theorem pollSiblings : Statement .pollSiblings := of_none rfl

end Sys2Proof.Laws.EncodedFrameIsValid
end

