-- ==== Sys2Proof/Tests/Slice0.lean ====
section
/-! SUPPORT. Tests from 95_test_vectors.md and the rules' examples, and a witness for every statement with hypotheses.
Expected values are the spec's, never the model's own answers. -/

namespace Sys2Proof.Tests

open Sys2Proof Sys2Proof.Machine Sys2Proof.Claims

/-! ### Helpers -/

/-- Device 0x21 as program P1 configures it. -/
def first : RegisterSet :=
  ⟨0x21#8, 0x21#8, 0x10#8, 0x03#8, 0x05#8, 0xFD#8, 0x81#8, 0x22#8, 0x2A#8, false⟩

/-- Device 0x22 as program P3 configures it. -/
def second : RegisterSet :=
  ⟨0x22#8, 0x22#8, 0x10#8, 0x04#8, 0xFE#8, 0x29#8, 0x80#8, 0x20#8, 0x28#8, true⟩

/-- The setup phase with these register sets. -/
def setup (devs : List RegisterSet) : State :=
  { State.reset with devs := devs, sm := devs.map fun _ => none }

/-- The engine's turn in the run phase at `l`, with these register sets; the bus will answer `bus`. -/
def runAt (l : Label) (devs : List RegisterSet) (bus : List Bytes := []) : State :=
  { setup devs with
    phase := .run, hostTurns := 0, mpc := l, st := l.owner .dataExchange, busIn := bus
    flags := ⟨true, false, false⟩ }

/-- A field of the next state. -/
def after {α : Type} (o : Out) (f : State → α) : Option α :=
  match o with
  | .next s => some (f s)
  | .fault _ => none
  | .refused _ => none

/-- The name of a refusal. -/
def refusedAs (o : Out) : Option Refusal :=
  match o with
  | .next _ => none
  | .fault _ => none
  | .refused r => some r

/-- CONFIG_REPLY C of 95_test_vectors.md 2.2. -/
def configC : Bytes :=
  [0x82#8, 0x10#8, 0x20#8, 0x28#8, 0x06#8] ++ (List.range 40).map (fun i => BitVec.ofNat 8 (i + 5)) ++
    [0x98#8, 0x75#8, 0x03#8]

/-- Bytes 5 to 20 of STATUS_REPLY A of 95_test_vectors.md 2.2. -/
def statusBodyA : Bytes :=
  [0x00#8, 0x00#8, 0x00#8, 0x00#8, 0x00#8, 0x0A#8, 0x32#8, 0x00#8, 0x00#8, 0x3C#8, 0x78#8, 0x22#8, 0x00#8, 0x00#8,
    0x00#8, 0x2A#8]

/-- STATUS_REPLY A of 95_test_vectors.md 2.2. -/
def statusA : Bytes :=
  [0x82#8, 0x10#8, 0x20#8, 0x10#8, 0x02#8] ++ statusBodyA ++ [0xD7#8, 0xF9#8, 0x03#8]

/-- The configuration write of device 0x21 in 95_test_vectors.md 2.10. -/
def configWrite21 : Bytes :=
  [0x82#8, 0x21#8, 0x20#8, 0x28#8, 0x06#8, 0xFD#8, 0x05#8, 0x07#8, 0x08#8, 0x09#8, 0x03#8, 0x81#8] ++
    (List.range 11).map (fun i => BitVec.ofNat 8 (i + 0x0C)) ++ [0x2A#8, 0x2A#8, 0x22#8] ++
    (List.range 19).map (fun i => BitVec.ofNat 8 (i + 0x1A)) ++ [0xB7#8, 0x1D#8, 0x03#8]

/-! ### Ill-formed terms (WellFormed) -/

theorem test_ill_sendSettings : (Instr.sendSettings 0x00#8 0x00000005#32).wellFormed = false := by decide
theorem test_ill_sendSettings_reserved : (Instr.sendSettings 0x00#8 0x10000000#32).wellFormed = false := by decide
theorem test_ill_pollTx : (Instr.pollTx 0x23#8).wellFormed = false := by decide
theorem test_ill_hdrAck : (Instr.hdrAck 0x23#8).wellFormed = false := by decide
theorem test_ill_cmdStatus : (Instr.cmdStatus 0x24#8).wellFormed = false := by decide
theorem test_ill_cmdConfig : (Instr.cmdConfig 0x20#8).wellFormed = false := by decide
theorem test_ill_configWrite : (Instr.configWrite 0x21#8 []).wellFormed = false := by decide
theorem test_ill_configWrite_slot : (Instr.configWrite 0x24#8 (List.replicate 40 0x00#8)).wellFormed = false := by
  decide
theorem test_ill_pollReply : (Instr.pollReply [0x00#8]).wellFormed = false := by decide
theorem test_ill_statusReply : (Instr.statusReply [0x00#8]).wellFormed = false := by decide
theorem test_ill_configReply : (Instr.configReply [0x00#8]).wellFormed = false := by decide
theorem test_ill_crcCompute : (Instr.crcCompute [0x00#8] 1 1).wellFormed = false := by decide
theorem test_ill_crcInsert : (Instr.crcInsert [0x00#8, 0x00#8] 0 1).wellFormed = false := by decide
theorem test_ill_verifyMessage : (Instr.verifyMessage [0x82#8] 4).wellFormed = false := by decide
theorem test_ill_buildMessage : (Instr.buildMessage [0x00#8] 5).wellFormed = false := by decide
theorem test_ill_buildMessage_body : (Instr.buildMessage [0x00#8] 9).wellFormed = false := by decide
theorem test_ill_slotOffset : (Instr.slotOffset 0x24#8).wellFormed = false := by decide
theorem test_ill_tx : (Instr.tx [] .space).wellFormed = false := by decide
theorem test_ill_rx : (Instr.rx 3 .long).wellFormed = false := by decide
theorem test_ill_trySend : (Instr.trySend (.settings 0) 0x00000001#32).wellFormed = false := by decide
theorem test_ill_applySettings : (Instr.applySettings 0 0x00000001#32).wellFormed = false := by decide
theorem test_ill_expectMsg : (Instr.expectMsg 10 hdrReplyHeader).wellFormed = false := by decide
theorem test_ill_expectMsg_header : (Instr.expectMsg 9 []).wellFormed = false := by decide
theorem test_ill_sendMsg : (Instr.sendMsg [] 9).wellFormed = false := by decide

/-! ### Decoding: words written out from the encodings (95_test_vectors.md 2.2, 2.6) -/

theorem test_decode_addInstance :
    decode (.host 0x100000000023A310#64) = .ok (.addInstance 0x23#8 0xA3#8 0x10#8) := by decide
theorem test_decode_start : decode (.host 0x2000000000000000#64) = .ok .start := by decide
theorem test_decode_sendSettings :
    decode (.host 0x300001000E29FE04#64) = .ok (.sendSettings 0x01#8 0x0E29FE04#32) := by decide
theorem test_decode_receiveReadings : decode (.host 0x4000000000000000#64) = .ok .receiveReadings := by decide
theorem test_decode_reserved_cmd : decode (.host 0x5000000000000000#64) = .error .reservedCommand := by decide
theorem test_decode_reserved_arg : decode (.host 0x1000000001212110#64) = .error .reservedField := by decide
theorem test_decode_pollTx : decode (.tx .pollSiblings [0xA3#8] .mark) = .ok (.pollTx 0xA3#8) := by decide
theorem test_decode_hsAck : decode (.tx .dataExchange [0x06#8] .space) = .ok .hsAck := by decide
theorem test_decode_hsPoll : decode (.tx .dataExchange [0x90#8] .mark) = .ok .hsPoll := by decide
theorem test_decode_hdrAck : decode (.tx .headerExchange [0x06#8, 0x21#8] .space) = .ok (.hdrAck 0x21#8) := by decide
theorem test_decode_cmdStatus :
    decode (.tx .dataExchange [0x82#8, 0x22#8, 0x10#8, 0x01#8, 0x02#8, 0x10#8, 0x55#8, 0xCC#8, 0x03#8] .space) =
      .ok (.cmdStatus 0x22#8) := by decide +kernel
theorem test_decode_cmdConfig :
    decode (.tx .dataExchange [0x82#8, 0x21#8, 0x10#8, 0x01#8, 0x06#8, 0x28#8, 0x32#8, 0x0B#8, 0x03#8] .space) =
      .ok (.cmdConfig 0x21#8) := by decide +kernel
theorem test_decode_configWrite :
    decode (.tx .dataExchange configWrite21 .space) =
      .ok (.configWrite 0x21#8 ((configWrite21.drop 5).take 40)) := by decide +kernel
-- A body whose CRC 2.1 lists (10 AA 01 00 01): the body of a poll reply is an open parameter.
theorem test_decode_pollReply :
    decode (.tx .pollSiblings [0x82#8, 0x10#8, 0xAA#8, 0x01#8, 0x00#8, 0x01#8, 0x86#8, 0x81#8, 0x03#8] .space) =
      .ok (.pollReply [0x10#8, 0xAA#8, 0x01#8, 0x00#8, 0x01#8]) := by decide +kernel
theorem test_decode_pollRx : decode (.rx .waitForPoll [0x21#8]) = .ok (.pollRx 0x21#8) := by decide
theorem test_decode_ack1 : decode (.rx .dataExchange [0x06#8]) = .ok .ack1 := by decide
theorem test_decode_ack2 : decode (.rx .pollSiblings [0x06#8, 0x90#8]) = .ok .ack2 := by decide
theorem test_decode_hdrReply :
    decode (.rx .headerExchange [0x82#8, 0x10#8, 0xAA#8, 0x01#8, 0x00#8, 0x01#8, 0x86#8, 0x81#8, 0x03#8]) =
      .ok (.hdrReply 0x01#8) := by decide +kernel
theorem test_decode_hdrReply_bad_header :
    decode (.rx .headerExchange [0x82#8, 0x10#8, 0xAB#8, 0x01#8, 0x00#8, 0x00#8, 0xB4#8, 0x8C#8, 0x03#8]) =
      .error .badHeader := by decide +kernel
theorem test_decode_statusReply : decode (.rx .dataExchange statusA) = .ok (.statusReply statusBodyA) := by
  decide +kernel
theorem test_decode_configReply :
    decode (.rx .dataExchange configC) =
      .ok (.configReply ((List.range 40).map fun i => BitVec.ofNat 8 (i + 5))) := by decide +kernel
theorem test_decodeTableWord_host : decodeTableWord 64 0x2000000000000000 = some .start := by decide
theorem test_decodeTableWord_ack2 : decodeTableWord 16 0x9006 = some .ack2 := by decide

/-! ### Host commands (95_test_vectors.md 2.6, 2.7) -/

theorem test_addInstance_first_handle :
    after (exec (.addInstance 0x21#8 0x21#8 0x10#8) (setup [])) (fun s => (s.ret, s.count, s.sm, s.reg 0x21#8)) =
      some (.response (.handle 0x00#8), 1, [none], some 0) := by
  have h : (setup []).count ≠ Config.nDevMax := by simp [setup, State.count, State.reset, Config.nDevMax]
  have hr : registrationRefusal 0x21#8 0x21#8 (setup []) = none := by
    unfold registrationRefusal; rw [if_neg h]; decide
  simp only [exec, execAddInstance, hr, after]; decide
theorem test_addInstance_parity :
    refusedAs (exec (.addInstance 0x21#8 0x23#8 0x10#8) (setup [])) = some .pollParity := by
  have h : (setup []).count ≠ Config.nDevMax := by simp [setup, State.count, State.reset, Config.nDevMax]
  have hr : registrationRefusal 0x21#8 0x23#8 (setup []) = some .pollParity := by
    unfold registrationRefusal; rw [if_neg h]; decide
  simp only [exec, execAddInstance, hr, refusedAs]
theorem test_start_runs :
    after (exec .start (setup [first])) (fun s => (s.phase, s.st, s.mpc, s.prev, s.nest)) =
      some (.run, .drainSettings, .e01, none, 0) := by decide
theorem test_start_empty : refusedAs (exec .start State.reset) = some .emptyRegistry := by decide
-- S2: the second of two sends is dropped.
theorem test_sendSettings_keeps_first :
    after (exec (.sendSettings 0x00#8 0x08000000#32) { setup [first] with sm := [some 0x00000000#32] }) (·.sm) =
      some [some 0x00000000#32] := by decide
theorem test_sendSettings_bad_handle :
    refusedAs (exec (.sendSettings 0x05#8 0x00000000#32) (setup [first])) = some .badHandle := by decide
theorem test_receiveReadings :
    after (exec .receiveReadings { setup [] with rm := some 0x783C320A#32 }) (fun s => (s.ret, s.rm)) =
      some (.response (.readings 0x1783C320A#33), none) := by decide
theorem test_receiveReadings_none :
    after (exec .receiveReadings (setup [])) (·.ret) = some (.response (.readings 0x000000000#33)) := by decide

/-! ### The framing and CRC unit (95_test_vectors.md 2.1 to 2.4; the rules' examples) -/

theorem test_crc_check_value :
    crc16k [0x31#8, 0x32#8, 0x33#8, 0x34#8, 0x35#8, 0x36#8, 0x37#8, 0x38#8, 0x39#8] = 0x2189#16 := by decide +kernel
theorem test_crcCompute :
    after (exec (.crcCompute [0x82#8, 0x21#8, 0x10#8, 0x01#8, 0x02#8, 0x10#8, 0x00#8, 0x00#8, 0x03#8] 1 5)
      State.reset) (·.ret) = some (.crc 0xD199#16) := by decide +kernel
theorem test_crcInsert :
    after (exec (.crcInsert [0x82#8, 0x21#8, 0x10#8, 0x01#8, 0x02#8, 0x10#8, 0x55#8, 0x55#8, 0x03#8] 1 5)
      State.reset) (·.ret) =
      some (.buffer [0x82#8, 0x21#8, 0x10#8, 0x01#8, 0x02#8, 0x10#8, 0x99#8, 0xD1#8, 0x03#8]) := by decide +kernel
theorem test_verifyMessage :
    after (exec (.verifyMessage [0x82#8, 0x10#8, 0xAA#8, 0x01#8, 0x00#8, 0x00#8, 0x0F#8, 0x90#8, 0x03#8] 9)
      State.reset) (·.ret) = some (.bool true) := by decide +kernel
theorem test_verifyMessage_swapped_crc :
    after (exec (.verifyMessage [0x82#8, 0x10#8, 0xAA#8, 0x01#8, 0x00#8, 0x00#8, 0x90#8, 0x0F#8, 0x03#8] 9)
      State.reset) (·.ret) = some (.bool false) := by decide +kernel
theorem test_verifyReply :
    after (exec (.verifyReply [0x06#8, 0x90#8] .two) State.reset) (·.ret) = some (.bool true) := by decide
theorem test_verifyReply_short :
    after (exec (.verifyReply [0x06#8] .two) State.reset) (·.ret) = some (.bool false) := by decide
theorem test_buildMessage :
    after (exec (.buildMessage [0x21#8, 0x10#8, 0x01#8, 0x02#8, 0x10#8] 9) State.reset) (·.ret) =
      some (.buffer [0x82#8, 0x21#8, 0x10#8, 0x01#8, 0x02#8, 0x10#8, 0x99#8, 0xD1#8, 0x03#8]) := by decide +kernel
theorem test_evenParityAddr :
    after (exec (.evenParityAddr 0x23#7) State.reset) (·.ret) = some (.byte 0xA3#8) := by decide
theorem test_evenParityAddr_all_ones :
    after (exec (.evenParityAddr 0x7F#7) State.reset) (·.ret) = some (.byte 0xFF#8) := by decide
theorem test_parityOk : after (exec (.parityOk 0x23#8) State.reset) (·.ret) = some (.bool false) := by decide
theorem test_slotOffset : after (exec (.slotOffset 0x22#8) State.reset) (·.ret) = some (.index 31) := by decide
theorem test_slotOffset_high_nibble : after (exec (.slotOffset 0xF1#8) State.reset) (·.ret) = some (.index 23) := by
  decide

/-! ### The transport and the mailboxes -/

theorem test_tx :
    after (exec (.tx [0x06#8, 0x21#8] .space) State.reset) (fun s => (s.events.flatMap Event.symbols, s.txEn)) =
      some ([(0x06#8, 0#1), (0x21#8, 0#1)], false) := by decide
theorem test_rx_cuts :
    after (exec (.rx 2 .long) { State.reset with busIn := [[0x06#8, 0x90#8, 0x06#8]] })
      (fun s => (s.rxb, s.ret, s.events, s.busIn)) =
      some ([0x06#8, 0x90#8], .buffer [0x06#8, 0x90#8], [.rx 2 .long [0x06#8, 0x90#8]], []) := by decide
theorem test_trySend_full :
    after (exec (.trySend .readings 0x00000001#32) { State.reset with rm := some 0x0000320A#32 }) (·.rm) =
      some (some 0x0000320A#32) := by decide
theorem test_tryRecv :
    after (exec (.tryRecv (.settings 0)) { setup [first] with sm := [some 0x00000003#32] })
      (fun s => (s.sm, s.ret)) = some ([none], .received (some 0x00000003#32)) := by decide
-- 95_test_vectors.md 2.6: the value 0x0E29FE04 applied.
theorem test_applySettings :
    after (exec (.applySettings 0 0x0E29FE04#32) (setup [first])) (fun s => (s.devs, s.flags)) =
      some ([{ first with selector := 0x04#8, knobSetting := 0xFE#8, measTemp := 0x29#8, dipSwitch := 0x80#8 }],
        ⟨true, true, true⟩) := by decide
theorem test_publishReadings :
    after (exec (.publishReadings 0x0000320A#32) State.reset) (fun s => (s.rm, s.events)) =
      some (some 0x0000320A#32, [.publish 0x0000320A#32 true]) := by decide

/-! ### Frames and pseudo-operations -/

theorem test_pollTx :
    after (exec (.pollTx 0x22#8) (runAt .e42 [first])) (fun s => (s.events, s.mpc)) =
      some ([.txBurst [0x22#8] .mark], .e43) := by decide
theorem test_hsAck :
    after (exec .hsAck { runAt .x08 [first] with txb := [0xAA#8] }) (fun s => (s.events, s.mpc, s.dxStep, s.txb)) =
      some ([.txBurst [0x06#8] .space], .x09, 3, [0xAA#8]) := by decide
theorem test_hsPoll :
    after (exec .hsPoll (runAt .x15 [first])) (fun s => (s.events, s.mpc)) =
      some ([.txBurst [0x90#8] .mark], .x16) := by decide
theorem test_hdrAck :
    after (exec (.hdrAck 0x21#8) (runAt .e20 [first])) (fun s => (s.events, s.mpc)) =
      some ([.txBurst [0x06#8, 0x21#8] .space], .e21) := by decide
theorem test_cmdStatus :
    after (exec (.cmdStatus 0x23#8) (runAt .x04 [first])) (fun s => (s.events, s.mpc, s.dxStep)) =
      some ([.txBurst [0x82#8, 0x23#8, 0x10#8, 0x01#8, 0x02#8, 0x10#8, 0x11#8, 0xC7#8, 0x03#8] .space], .x05, 2) := by
  decide +kernel
theorem test_cmdConfig :
    after (exec (.cmdConfig 0x22#8) (runAt .x11 [first])) (fun s => (s.events, s.mpc)) =
      some ([.txBurst [0x82#8, 0x22#8, 0x10#8, 0x01#8, 0x06#8, 0x28#8, 0xFE#8, 0x16#8, 0x03#8] .space], .x12) := by
  decide +kernel
theorem test_configWrite :
    after (exec (.configWrite 0x21#8 ((configWrite21.drop 5).take 40)) (runAt .x18 [first])) (·.events) =
      some [.txBurst configWrite21 .space] := by decide +kernel
theorem test_pollReply :
    after (exec (.pollReply [0x10#8, 0xAA#8, 0x01#8, 0x00#8, 0x00#8]) (runAt .e46 [first])) (fun s => (s.events, s.mpc)) =
      some ([.txBurst [0x82#8, 0x10#8, 0xAA#8, 0x01#8, 0x00#8, 0x00#8, 0x0F#8, 0x90#8, 0x03#8] .space], .e47) := by
  decide +kernel
-- 95_test_vectors.md 2.8: the second of two equal poll bytes confirms.
theorem test_pollRx_confirms :
    after (exec (.pollRx 0x21#8) { runAt .e05 [first] with prev := some 0x21#8 }) (fun s => (s.mpc, s.cur, s.prev)) =
      some (.e20, 0, none) := by decide
theorem test_pollRx_other_key :
    after (exec (.pollRx 0xA1#8) { runAt .e05 [first] with prev := some 0xA1#8 }) (fun s => (s.mpc, s.prev)) =
      some (.e01, some 0xA1#8) := by decide
theorem test_ack1 : after (exec .ack1 (runAt .x05 [first])) (·.mpc) = some .x06 := by decide
theorem test_ack1_short : after (exec .ack1 (runAt .x03 [first])) (·.mpc) = some .e99 := by decide
theorem test_ack2 : after (exec .ack2 (runAt .x03 [first])) (·.mpc) = some .x04 := by decide
theorem test_ack2_genuine : after (exec .ack2 (runAt .e44 [first])) (·.mpc) = some .e46 := by decide
theorem test_hdrReply :
    after (exec (.hdrReply 0x01#8) (runAt .e21 [first])) (fun s => (s.mpc, s.st, s.devs)) =
      some (.e22, .dataExchange, [{ first with skipThermostatsFlag := true }]) := by decide +kernel
theorem test_statusReply :
    after (exec (.statusReply statusBodyA) (runAt .x06 [first])) (fun s => (s.mpc, s.rxb)) = some (.x07, statusA) := by
  decide +kernel
theorem test_configReply :
    after (exec (.configReply ((List.range 40).map fun i => BitVec.ofNat 8 (i + 5))) (runAt .x13 [first]))
      (fun s => (s.mpc, s.cfg)) = some (.x14, configC) := by decide +kernel
theorem test_handshake :
    after (exec .handshake (runAt .x01 [first] [[0x06#8, 0x90#8]])) (fun s => (s.events, s.mpc)) =
      some ([.rx 2 .long [0x06#8, 0x90#8], .txBurst [0x90#8] .mark, .txBurst [0x06#8] .space], .x01) := by decide
theorem test_handshake_ack_error : after (exec .handshake (runAt .x01 [first] [[0x06#8, 0x91#8]])) (·.mpc) = some .e99 := by
  decide
theorem test_expectAck1_error : after (exec .expectAck1 (runAt .x05 [first] [[0x15#8]])) (·.mpc) = some .e99 := by decide
theorem test_expectMsg :
    after (exec (.expectMsg 9 [0x82#8, 0x10#8, 0xAA#8, 0x01#8, 0x00#8])
      (runAt .e21 [first] [[0x82#8, 0x10#8, 0xAA#8, 0x01#8, 0x00#8, 0x00#8, 0x0F#8, 0x90#8, 0x03#8]])) (·.ret) =
      some (.buffer [0x82#8, 0x10#8, 0xAA#8, 0x01#8, 0x00#8, 0x00#8, 0x0F#8, 0x90#8, 0x03#8]) := by decide +kernel
theorem test_sendMsg :
    after (exec (.sendMsg [0x21#8, 0x10#8, 0x01#8, 0x02#8, 0x10#8] 9) (runAt .x04 [first])) (·.events) =
      some [.txBurst [0x82#8, 0x21#8, 0x10#8, 0x01#8, 0x02#8, 0x10#8, 0x99#8, 0xD1#8, 0x03#8] .space] := by
  decide +kernel

/-! ### Engine states (95_test_vectors.md 2.8 to 2.11, P1 to P4) -/

theorem test_drain_applies :
    after (exec .drainSettings { runAt .e02 [first] with pend := [0], sm := [some 0x0A000000#32] })
      (fun s => (s.flags, s.sm, s.mpc, s.events)) =
      some (⟨true, true, false⟩, [none], .e03, [.drain 0 (some 0x0A000000#32)]) := by decide
theorem test_check_disabled :
    after (exec .checkRemoteEnabled
      { runAt .e03 [first] with flags := ⟨false, true, true⟩, prev := some 0x21#8 }) (fun s => (s.st, s.prev)) =
      some (.dormant, none) := by decide
theorem test_dormant_restarts :
    after (exec .dormant (runAt .e04 [first])) (fun s => (s.st, s.mpc, s.events)) = some (.drainSettings, .e01, []) := by
  decide
theorem test_wait_first_byte :
    after (exec .waitForPoll { runAt .e06 [first] with rxb := [0x21#8] }) (fun s => (s.st, s.prev)) =
      some (.drainSettings, some 0x21#8) := by decide
-- An empty receive clears `prev`, since the parameter's default is true (R15, D18).
theorem test_wait_timeout_clears_prev :
    after (exec .waitForPoll { runAt .e06 [first] with prev := some 0x21#8 }) (fun s => (s.st, s.prev)) =
      some (.drainSettings, none) := by decide
-- S5: a wrong header with a valid CRC aborts and leaves the skip flag.
theorem test_header_rejected :
    after (exec .headerExchange
      (runAt .e21 [second] [[0x82#8, 0x10#8, 0xAB#8, 0x01#8, 0x00#8, 0x00#8, 0xB4#8, 0x8C#8, 0x03#8]]))
      (fun s => (s.mpc, s.devs)) = some (.e99, [second]) := by decide +kernel
-- S6: the readings of STATUS_REPLY A.
theorem test_dataExchange_readings :
    after (exec .dataExchange { runAt .x07 [first] with rxb := statusA }) (fun s => (s.rm, s.rl, s.mpc)) =
      some (some 0x783C320A#32, 0x783C320A#32, .x08) := by decide +kernel
-- 95_test_vectors.md 2.10: the patch of device 0x21.
theorem test_dataExchange_patch :
    after (exec .dataExchange { runAt .x17 [first] with cfg := configC }) (·.cfg) = some configWrite21 := by
  decide +kernel
-- 95_test_vectors.md 2.4: slot 2 starts at index 2.
theorem test_pollSiblings_start :
    after (exec .pollSiblings { runAt .e40 [second] with cur := 0 }) (fun s => (s.pi, s.mpc)) = some (2, .e41) := by
  decide
theorem test_pollSiblings_exhausted :
    after (exec .pollSiblings { runAt .e41 [first] with pi := 8 }) (fun s => (s.st, s.mpc)) =
      some (.drainSettings, .e01) := by decide

/-! ### Placing a word where the next step runs it -/

theorem test_fetch_word_hsPoll :
    after (step (State.reset.withFetchWord 8 0x90)) (·.events) = some [.txBurst [0x90#8] .mark] := by decide
theorem test_fetch_word_receiveReadings :
    after (step (State.reset.withFetchWord 64 0x4000000000000000)) (·.ret) =
      some (.response (.readings 0x000000000#33)) := by decide

/-! ### Witnesses: states and operands that meet a statement's hypotheses, clause by clause -/

theorem test_witness_CrcLinearWithZeroResidue : ([0x01#8] : Bytes).length = ([0x80#8] : Bytes).length := rfl

theorem test_witness_CrcComputeReturnsCrcOfRange :
    1 + 8 ≤ (List.replicate 9 0x00#8).length ∧ (List.replicate 9 0x00#8).length < 1 + 9 := by decide

theorem test_witness_CrcInsertWritesTwoBytes :
    1 + 6 + 2 ≤ (List.replicate 9 0x00#8).length ∧ (List.replicate 9 0x00#8).length < 1 + 7 + 2 := by decide

theorem test_witness_BuildMessageReturnsEnvelope :
    (List.replicate 5 0x00#8).length + 4 = 9 ∧ (List.replicate 44 0x00#8).length + 4 = 48 := by decide

theorem test_witness_ParityCodeAndSlotOffsets :
    (0x21#8).extractLsb' 0 4 = 1#4 ∧ (0xF2#8).extractLsb' 0 4 = 2#4 ∧ (0x03#8).extractLsb' 0 4 = 3#4 := by decide

theorem test_witness_CrcInsertThenVerifySucceeds :
    let m : Bytes := [0x82#8, 0x55#8, 0x55#8, 0x03#8]
    4 ≤ m.length ∧ m[0]? = some 0x82#8 ∧ m[m.length - 1]? = some 0x03#8 := by decide

theorem test_witness_SingleBitFlipIsDetected :
    let m : Bytes := [0x82#8, 0x00#8, 0x00#8, 0x03#8]
    verifyMessage m 4 = true ∧ 3 < 4 ∧ 7 < 8 ∧ m[3]? = some 0x03#8 ∧ m[0]? = some 0x82#8 ∧ m[1]? = some 0x00#8 := by
  decide +kernel

theorem test_witness_MailboxesAreSingleSlots :
    (setup []).rm = none ∧ (setup [first]).sm[0]? = some none ∧
      { setup [] with rm := some 0x0000320A#32 }.rm = some 0x0000320A#32 ∧
      { setup [first] with sm := [some 0x00000003#32] }.sm[0]? = some (some 0x00000003#32) := by decide

theorem test_witness_ApplySettingsWritesFourFields : (setup [first]).devs[0]? = some first := rfl

theorem test_witness_OperandsThatNameNothingAreRefused :
    (setup [first]).sm[1]? = none ∧ (setup [first]).devs[1]? = none ∧ (List.replicate 3 0x00#8).length + 5 < 9 := by decide

theorem test_witness_PublishKeepsOlderReadings :
    (setup []).rm = none ∧ { setup [] with rm := some 0x0000320A#32 }.rm = some 0x0000320A#32 := by decide

theorem test_witness_StoredSettingsStayUntilDrained :
    let s := { runAt .e02 [first] with pend := [0], sm := [some 0x0A000000#32] }
    s.sm[0]? = some (some 0x0A000000#32) ∧ (∃ t, step s = .next t) ∧ s.pend.head? = some 0 :=
  ⟨rfl, ⟨_, rfl⟩, rfl⟩

theorem test_witness_AddInstanceAppendsRegisterSet :
    (setup []).phase = .setup ∧ (setup []).count < Config.nDevMax ∧ slotOk 0x21#8 = true ∧ parityOk 0x21#8 = true ∧
      ∀ d ∈ (setup []).devs, d.pollAddress ≠ 0x21#8 :=
  ⟨rfl, Nat.succ_pos _, by decide, by decide, by simp [setup]⟩

theorem test_witness_AddInstanceRefusals :
    exec (.addInstance 0x21#8 0x21#8 0x10#8) (runAt .e01 [first]) = .refused .addAfterStart :=
  rfl

theorem test_witness_AddInstanceRefusals_full :
    exec (.addInstance 0x21#8 0x21#8 0x10#8) (setup (List.replicate Config.nDevMax first)) = .refused .registryFull := by
  simp [exec, execAddInstance, registrationRefusal, setup, State.reset, State.count]

/-- The duplicate-address case needs a register set and room for another: `N_DEV_MAX` at least 2. -/
theorem test_witness_AddInstanceRefusals_duplicate (h : 2 ≤ Config.nDevMax) :
    exec (.addInstance 0x21#8 0x21#8 0x10#8) (setup [first]) = .refused .duplicatePoll := by
  have hn : (setup [first]).count ≠ Config.nDevMax := by
    simp only [setup, State.count, List.length_cons, List.length_nil]; omega
  have hr : registrationRefusal 0x21#8 0x21#8 (setup [first]) = some .duplicatePoll := by
    unfold registrationRefusal; rw [if_neg hn]; decide
  simp only [exec, execAddInstance, hr]

theorem test_witness_StartEntersRunPhase :
    (setup [first]).phase = .setup ∧ (setup [first]).devs ≠ [] ∧ (runAt .e01 [first]).phase = .run ∧
      (setup []).phase = .setup ∧ (setup []).devs = [] := by decide

theorem test_witness_SendSettingsStoresOrDrops :
    (0x00#8).toNat < (setup [first]).count ∧ settingsOk 0x0E29FE04#32 = true ∧
      (setup [first]).sm[(0x00#8).toNat]? = some none ∧ (setup [first]).count ≤ (0x01#8).toNat ∧
      settingsOk 0x10000000#32 = false ∧
      { setup [first] with sm := [some 0x00000003#32] }.sm[(0x00#8).toNat]? = some (some 0x00000003#32) := by decide

theorem test_witness_ReceiveReadingsTakesOnce :
    (setup []).rm = none ∧ { setup [] with rm := some 0x0000320A#32 }.rm = some 0x0000320A#32 ∧
      ∃ t, exec .receiveReadings (setup []) = .next t := ⟨rfl, rfl, _, rfl⟩

theorem test_witness_IllegalHostWordsAreRefused :
    (∀ w, { setup [] with hostIn := [w] }.turn = .host ∧ { setup [] with hostIn := [w] }.hostIn = w :: []) ∧
      5 ≤ ((0x5000000000000000#64).extractLsb' 60 4).toNat ∧
      ((0x1000000001212110#64).extractLsb' 60 4 = 1#4 ∧ (0x1000000001212110#64).extractLsb' 24 36 ≠ 0#36) ∧
      ((0x2000000000000001#64).extractLsb' 60 4 = 2#4 ∧ (0x2000000000000001#64).extractLsb' 0 60 ≠ 0#60) ∧
      ((0x3000000100000000#64).extractLsb' 60 4 = 3#4 ∧ (0x3000000100000000#64).extractLsb' 32 8 ≠ 0#8) ∧
      ((0x3000000010000000#64).extractLsb' 60 4 = 3#4 ∧ (0x3000000010000000#64).extractLsb' 48 12 = 0#12 ∧
        (0x3000000010000000#64).extractLsb' 32 8 = 0#8 ∧ (0x3000000010000000#64).extractLsb' 28 4 ≠ 0#4) :=
  ⟨fun _ => ⟨rfl, rfl⟩, by decide, by decide, by decide, by decide, by decide⟩

theorem test_witness_ShortStringsSent :
    (runAt .e42 [first]).phase = .run ∧ (runAt .e42 [first]).mpc = .e42 ∧ (runAt .x14 [first]).mpc = .x14 ∧
      (runAt .x15 [first]).mpc = .x15 ∧ (runAt .e20 [first]).mpc = .e20 ∧ (setup [first]).phase = .setup := by decide

theorem test_witness_MessagesSent :
    (List.replicate 40 0x00#8).length = 40 ∧ (List.replicate 5 0x00#8).length = 5 ∧
      (runAt .x18 [first]).phase = .run ∧ (runAt .x18 [first]).mpc = .x18 := by decide

theorem test_witness_IsExpected_header :
    IsExpected [0x82#8, 0x10#8, 0xAA#8, 0x01#8, 0x00#8, 0x00#8, 0x0F#8, 0x90#8, 0x03#8] 9
      [0x82#8, 0x10#8, 0xaa#8, 0x01#8, 0x00#8] :=
  ⟨by decide, ⟨by decide, [0x10#8, 0xAA#8, 0x01#8, 0x00#8, 0x00#8], by decide, by decide +kernel⟩, by decide⟩

theorem test_witness_not_IsExpected : ¬ IsExpected [] 9 [0x82#8, 0x10#8, 0xaa#8, 0x01#8, 0x00#8] := by
  simp [IsExpected]

theorem test_witness_PseudoOperationsSendAndCheck :
    let r : Bytes := [0x82#8, 0x10#8, 0xAA#8, 0x01#8, 0x00#8, 0x00#8, 0x0F#8, 0x90#8, 0x03#8]
    (List.replicate 5 0x00#8).length + 4 = 9 ∧ (List.replicate 44 0x00#8).length + 4 = 48 ∧
      (runAt .e21 [first] [r]).busIn = r :: [] ∧ r.length = 9 ∧
      IsExpected r 9 [0x82#8, 0x10#8, 0xaa#8, 0x01#8, 0x00#8] :=
  ⟨rfl, rfl, rfl, rfl, test_witness_IsExpected_header⟩

/-- Every micro-step is a place where the engine can stand. -/
theorem test_witness_EngineAt (l : Label) : EngineAt l (runAt l [first]) := ⟨rfl, rfl⟩

theorem test_witness_DrainOrderIsPermutation : EngineAt .e01 (runAt .e01 [first]) := ⟨rfl, rfl⟩

theorem test_witness_DrainVisitAppliesSettings :
    let s := { runAt .e02 [first] with pend := [0] }
    EngineAt .e02 s ∧ s.pend = 0 :: [] ∧ s.devs[0]? = some first ∧ s.sm[0]? = some none ∧
      { s with sm := [some 0x0A000000#32] }.sm[0]? = some (some 0x0A000000#32) :=
  ⟨⟨rfl, rfl⟩, rfl, rfl, rfl, rfl⟩

theorem test_witness_DisabledRemoteIsDormant :
    (runAt .e03 [first]).flags.remoteControlEnabled = true ∧
      { runAt .e03 [first] with flags := ⟨false, false, false⟩ }.flags.remoteControlEnabled = false := ⟨rfl, rfl⟩

theorem test_witness_PollConfirmedByTwoEqualBytes :
    let s := { runAt .e06 [first] with rxb := [0x21#8], prev := some 0x21#8 }
    EngineAt .e06 s ∧ s.rxb = 0x21#8 :: [] ∧ (s.devs.map (·.pollAddress)).Nodup ∧ s.devs[0]? = some first ∧
      first.pollAddress = 0x21#8 ∧ s.prev = some 0x21#8 ∧ (runAt .e06 [first]).rxb = [] ∧
      (runAt .e06 [first]).prev ≠ some 0x21#8 :=
  ⟨⟨rfl, rfl⟩, rfl, by decide, rfl, rfl, rfl, rfl, by decide⟩

theorem test_witness_PollRxRunsAddressFilter :
    (runAt .e05 [first]).prev ≠ some 0x21#8 ∧ { runAt .e05 [first] with prev := some 0x21#8 }.prev = some 0x21#8 ∧
      ∃ d ∈ (runAt .e05 [first]).devs, d.pollAddress = 0x21#8 := ⟨by decide, rfl, first, by decide, rfl⟩

theorem test_witness_HeaderExchangeAcksAndLearnsSkipFlag :
    (runAt .e20 [first]).devs[(runAt .e20 [first]).cur]? = some first ∧ EngineAt .e20 (runAt .e20 [first]) ∧
      EngineAt .e21 (runAt .e21 [first]) := ⟨rfl, ⟨rfl, rfl⟩, ⟨rfl, rfl⟩⟩

theorem test_witness_DataExchangeSendsItsFrames :
    (runAt .x04 [first]).st = .dataExchange ∧ EngineAt .x04 (runAt .x04 [first]) ∧
      (runAt .x04 [first]).devs[(runAt .x04 [first]).hdl]? = some first ∧
      (runAt .e22 [first]).st = .dataExchange ∧ (runAt .x19 [first]).st = .dataExchange :=
  ⟨rfl, ⟨rfl, rfl⟩, rfl, rfl, rfl⟩

theorem test_witness_DataExchangeReceivesOrAborts :
    EngineAt .x16 (runAt .x16 [first]) ∧ EngineAt .x12 (runAt .x12 [first]) ∧ EngineAt .x06 (runAt .x06 [first]) ∧
      EngineAt .x13 (runAt .x13 [first]) := ⟨⟨rfl, rfl⟩, ⟨rfl, rfl⟩, ⟨rfl, rfl⟩, ⟨rfl, rfl⟩⟩

theorem test_witness_ConfigWriteEndsExchange :
    (runAt .x19 [first]).st = .dataExchange ∧ EngineAt .x19 (runAt .x19 [first]) ∧
      EngineAt .x18 (runAt .x18 [first]) := ⟨rfl, ⟨rfl, rfl⟩, ⟨rfl, rfl⟩⟩

theorem test_witness_ExpectedFramesAreAccepted :
    (runAt .e21 [first]).devs[(runAt .e21 [first]).cur]? = some first ∧ statusBodyA.length = 16 ∧
      (List.replicate 40 0x00#8).length = 40 := by decide

theorem test_witness_LateFramesAreHeldOrLost :
    encode .ack1 = some (.rx .dataExchange [0x06#8]) ∧ (runAt .e01 [first]).mpc ∉ receiveLabels ∧
      (setup [first]).phase = .setup := by decide

theorem test_witness_StatusReplyStashesAndPublishes :
    let s := { runAt .x07 [first] with rxb := statusA }
    EngineAt .x07 s ∧ s.devs[s.hdl]? = some first ∧ s.rxb.length = 24 := ⟨⟨rfl, rfl⟩, rfl, rfl⟩

theorem test_witness_ConfigPatchWritesRegisters :
    let s := { runAt .x17 [first] with cfg := configC }
    EngineAt .x17 s ∧ s.devs[s.hdl]? = some first ∧ slotOk first.deviceAddress = true ∧ s.cfg.length = 48 ∧
      s.cfg[0]? = some 0x82#8 ∧ s.cfg[47]? = some 0x03#8 := ⟨⟨rfl, rfl⟩, rfl, by decide, rfl, rfl, rfl⟩

theorem test_witness_AbortKeepsEverythingWritten :
    EngineAt .e99 (runAt .e99 [first]) ∧ Instr.dataExchange ∈ [Instr.headerExchange, .dataExchange, .pollSiblings] :=
  ⟨⟨rfl, rfl⟩, by decide⟩

theorem test_witness_PollPhaseStartsAfterOwnSlot :
    (runAt .e40 [first]).devs[(runAt .e40 [first]).cur]? = some first ∧
      { runAt .e41 [first] with pi := 8 }.pi = 8 ∧ { runAt .e41 [first] with pi := 7 }.pi < 8 :=
  ⟨rfl, rfl, by decide⟩

theorem test_witness_PollPhaseSendsFiveTimes :
    [0x21#8, 0x22#8, 0xa3#8, 0x9c#8, 0x1d#8, 0x1e#8, 0x9f#8, 0x90#8][{ runAt .e42 [first] with pi := 7 }.pi]? =
        some 0x90#8 ∧
      { runAt .e45 [first] with rxb := [0x06#8, 0x90#8] }.rxb = [0x06#8, 0x90#8] ∧
      { runAt .e45 [first] with rep := 4 }.rep < 5 ∧ 5 ≤ { runAt .e45 [first] with rep := 5 }.rep ∧
      (runAt .e45 [first]).rxb ≠ [0x06#8, 0x90#8] := by decide

theorem test_witness_SecondSendSimulatesSibling :
    let s := { runAt .e43 [first, second] with pi := 1, rep := 2 }
    EngineAt .e43 s ∧
      [0x21#8, 0x22#8, 0xa3#8, 0x9c#8, 0x1d#8, 0x1e#8, 0x9f#8, 0x90#8][s.pi]? = some 0x22#8 ∧
      s.devs[s.hdl]? = some first ∧ (s.devs.map (·.pollAddress)).Nodup ∧ s.devs[1]? = some second ∧
      second.pollAddress = 0x22#8 ∧ 1 ≠ s.hdl ∧ s.rep = 2 ∧ { s with rep := 1 }.rep ≠ 2 :=
  ⟨⟨rfl, rfl⟩, rfl, rfl, by decide, rfl, rfl, by decide, rfl, by decide⟩

-- At the default the clear skip flag of device 0x21 does not gate the simulation (R15, D26); with the parameter true it does.
theorem test_witness_SecondSendSimulatesSibling_gate :
    let s := { runAt .e43 [first, second] with pi := 1, rep := 2 }
    after (exec .pollSiblings s) (fun t => (t.mpc, t.hdl, t.outer, t.devs)) =
        some (.x01, 1, 0, [first, { second with skipThermostatsFlag := false }]) ∧
      after (exec .pollSiblings { s with params := { skipGatesSiblingSim := true } }) (·.mpc) = some .e44 := by decide

theorem test_witness_PollReplyThenFinalAck :
    (runAt .e46 [first]).devs[(runAt .e46 [first]).hdl]? = some first ∧ EngineAt .e47 (runAt .e47 [first]) :=
  ⟨rfl, ⟨rfl, rfl⟩⟩

/-- The engine at `l` with one register set, a received string, a previous poll byte, pending handles, a mailbox
value and flags. -/
def posed (l : Label) (d : RegisterSet) (rxb : Bytes) (prev : Option Byte) (pend : List Nat) (slot : Option Settings)
    (remote : Bool) : State :=
  { runAt l [d] with rxb := rxb, prev := prev, pend := pend, sm := [slot], flags := ⟨remote, false, false⟩ }

/-- A sound position at every micro-step but E48, which is reached only with a nested exchange's state. -/
theorem posed_position {l : Label} {d : RegisterSet} {rxb : Bytes} {prev : Option Byte} {pend : List Nat}
    {slot : Option Settings} {remote : Bool} (h48 : l ≠ .e48) (h07 : l = .x07 → rxb.length = 24)
    (hprev : l.idle = false → prev = none) : PositionSound (posed l d rxb prev pend slot remote) where
  state := by cases l <;> simp [posed, runAt, setup, stateAgrees, Label.owner] at *
  cur := fun _ => Nat.zero_lt_one
  hdl := fun _ => Nat.zero_lt_one
  nest := .inl rfl
  unnested := fun _ _ => rfl
  index := ⟨fun _ => Nat.zero_le 8, fun _ => by simp [posed, runAt, setup, State.reset]⟩
  count := fun _ => by simp [posed, runAt, setup, State.reset]
  status := h07
  prev := hprev

/-- A sound state at the same micro-steps. -/
theorem posed_inv {l : Label} {d : RegisterSet} {rxb : Bytes} {prev : Option Byte} {pend : List Nat}
    {slot : Option Settings} {remote : Bool} (hd : d.Sound) (h48 : l ≠ .e48) (h07 : l = .x07 → rxb.length = 24)
    (hprev : l.idle = false → prev = none) (hr : rxb.length ≤ 48) (hp : pend = [] ∨ pend = [0])
    (hs : ∀ v, slot = some v → settingsOk v = true) : (posed l d rxb prev pend slot remote).Inv where
  boxes := rfl
  size := Nat.le_add_left 1 _
  sets := by simpa [posed, runAt, setup] using hd
  keys := by simp [posed, runAt, setup]
  letters := by
    intro v hv
    exact hs v (by simpa [posed, eq_comm] using hv)
  phases := by cases l <;> simp [posed, runAt, setup, Label.owner]
  started := fun _ => by simp [posed, runAt, setup]
  silent := fun _ => rfl
  pending := by rcases hp with rfl | rfl <;> simp [posed, runAt, setup, State.count]
  buffers := ⟨by simp [posed, runAt, setup, State.reset], hr⟩
  exchangeStep := by simp [posed, runAt, setup, State.reset]
  quiet := rfl
  position := fun _ => posed_position h48 h07 hprev

theorem first_sound : first.Sound := by unfold RegisterSet.Sound; decide

theorem test_witness_StepRunsFetchedInstruction_engine :
    let s := posed .e42 first [] none [] none true
    s.turn = .engine ∧ s.phase = .run ∧ PositionSound s :=
  ⟨rfl, rfl, posed_position (by decide) (by decide) (by decide)⟩

theorem test_witness_StepRunsFetchedInstruction :
    let s := { setup [] with hostIn := [0x4000000000000000#64] }
    (s.turn = .host ∧ s.hostIn = 0x4000000000000000#64 :: [] ∧
      decode (.host 0x4000000000000000#64) = .ok .receiveReadings) ∧
      (runAt .e01 [first]).turn = .engine ∧ (runAt .e01 [first]).phase = .run ∧
      { setup [] with hostTurns := 0 }.turn = .engine ∧ { setup [] with hostTurns := 0 }.phase = .setup := by decide

theorem test_witness_StepRunsReceivedFrame :
    let s := runAt .x05 [first] [[0x06#8]]
    s.turn = .engine ∧ s.phase = .run ∧ s.mpc ∈ receiveLabels ∧ s.mpc ≠ .e05 ∧ s.mpc ≠ .e44 ∧
      encode .ack1 = some (.rx .dataExchange [0x06#8]) ∧ s.busIn = [0x06#8] :: [] := by decide

theorem test_witness_StepRunsSentFrame :
    let s := { runAt .x18 [first] with cfg := configWriteBytes 0x21#8 (List.replicate 40 0x00#8) }
    PositionSound (posed .e42 first [] none [] none true) ∧ s.mpc = .x18 ∧ s.cfg = configWriteBytes 0x21#8 (List.replicate 40 0x00#8) ∧
      (runAt .e42 [first]).mpc = .e42 ∧ pollList[(runAt .e42 [first]).pi]? = some 0x21#8 ∧
      (runAt .x04 [first]).mpc = .x04 ∧ (runAt .x04 [first]).devs[(runAt .x04 [first]).hdl]? = some first :=
  ⟨posed_position (by decide) (by decide) (by decide), rfl, rfl, rfl, rfl, rfl, rfl⟩

theorem test_witness_RegistryNeverChangesAfterStart :
    (runAt .e01 [first]).phase = .run ∧ ∃ t, step (runAt .e01 [first]) = .next t := ⟨rfl, _, rfl⟩

theorem test_witness_RegisterWriters :
    let d := { first with reducedTemp := 0x00#8 }
    let s := posed .x07 d statusA none [] none true
    s.Inv ∧ s.devs[0]? = some d ∧ d ≠ first ∧ ∃ t, step s = .next t ∧ t.devs[0]? = some first :=
  ⟨posed_inv (by unfold RegisterSet.Sound; decide) (by decide) (fun _ => rfl) (fun _ => rfl) (by decide) (.inl rfl)
      (by simp), rfl, by decide, _, rfl, by decide +kernel⟩

theorem test_witness_RegisterWriters_drain :
    let s := posed .e02 first [] none [0] (some 0x0A000000#32) true
    s.Inv ∧ ∃ t, step s = .next t ∧ t.devs[0]? ≠ some first ∧ t.flags ≠ s.flags :=
  ⟨posed_inv first_sound (by decide) (by decide) (by decide) (by decide) (.inr rfl) (by rintro v ⟨⟩; decide), _, rfl, by decide,
    by decide⟩

theorem test_witness_GlobalFlagsWrittenByDrainOnly :
    let s := posed .e02 first [] none [0] (some 0x0A000000#32) true
    s.Inv ∧ s.phase = .run ∧ ∃ t, step s = .next t ∧ t.flags ≠ s.flags :=
  ⟨posed_inv first_sound (by decide) (by decide) (by decide) (by decide) (.inr rfl) (by rintro v ⟨⟩; decide), rfl, _, rfl,
    by decide⟩

theorem test_witness_PrevWriters :
    let s := posed .e06 first [0x21#8] none [] none true
    s.Inv ∧ ∃ t, step s = .next t ∧ t.prev ≠ s.prev :=
  ⟨posed_inv first_sound (by decide) (by decide) (by decide) (by decide) (.inl rfl) (by simp), _, rfl, by decide⟩

/-- A confirmed poll: the step that enters the exchange clears the previous poll byte. -/
theorem test_witness_PrevWriters_exchange :
    let s := posed .e06 first [0x21#8] (some 0x21#8) [] none true
    s.Inv ∧ s.prev ≠ none ∧ ∃ t, step s = .next t ∧ t.phase = .run ∧ t.mpc.idle = false ∧ t.prev = none :=
  ⟨posed_inv first_sound (by decide) (by decide) (by decide) (by decide) (.inl rfl) (by simp), by decide, _, rfl, rfl,
    rfl, rfl⟩

theorem test_witness_DormantEngineTouchesNoBus :
    let s := posed .e03 first [] none [] none false
    s.Inv ∧ s.phase = .run ∧ s.turn = .engine ∧ s.mpc ∈ [Label.e01, .e02, .e03, .e04] ∧
      s.flags.remoteControlEnabled = false ∧ (∀ v, some v ∉ s.sm) ∧ ∃ t, step s = .next t :=
  ⟨posed_inv first_sound (by decide) (by decide) (by decide) (by decide) (.inl rfl) (by simp), rfl, rfl, by decide, rfl,
    by simp [posed], _, rfl⟩

theorem test_witness_PowerUpIsSetupPhase : (setup [first]).phase = .setup := rfl

theorem test_witness_EngineRowsStartAtTheirEntry :
    (runAt .e05 [first]).phase = .run ∧ (runAt .e05 [first]).mpc ≠ .e99 ∧
      (runAt .e05 [first]).mpc.owner (runAt .e05 [first]).st ≠ .headerExchange := by decide

theorem test_witness_StepKeepsInvariant :
    let s := posed .e01 first [] none [] none true
    s.Inv ∧ ∃ t, step s = .next t :=
  ⟨posed_inv first_sound (by decide) (by decide) (by decide) (by decide) (.inl rfl) (by simp), _, rfl⟩

theorem test_witness_EngineNeverStops :
    let s := posed .x05 first [] none [] none true
    s.Inv ∧ s.turn = .engine :=
  ⟨posed_inv first_sound (by decide) (by decide) (by decide) (by decide) (.inl rfl) (by simp), rfl⟩

/-- Host turns, and words that host agents hold ready, do not bear on soundness. -/
theorem inv_of_host {s : State} (h : s.Inv) (k : Nat) (q : List HostWord) :
    { s with hostTurns := k, hostIn := q }.Inv :=
  ⟨h.boxes, h.size, h.sets, h.keys, h.letters, h.phases, h.started, h.silent, h.pending, h.buffers, h.exchangeStep,
    h.quiet, fun hr =>
      let p := h.position hr
      ⟨p.state, p.cur, p.hdl, p.nest, p.unnested, p.index, p.count, p.status, p.prev⟩⟩

/-- Two host turns, with a command for each, and then the engine's. -/
theorem test_witness_EngineNeverStops_host :
    let q := [0x4000000000000000#64, 0x4000000000000000#64]
    let s := { posed .x05 first [] none [] none true with hostTurns := 2, hostIn := q }
    s.Inv ∧ s.turn = .host ∧ ∃ t, runSteps s.hostTurns s = .next t ∧ t.mpc = .x05 :=
  ⟨inv_of_host (posed_inv first_sound (by decide) (by decide) (by decide) (by decide) (.inl rfl) (by simp)) 2 _, rfl, _,
    rfl, rfl⟩

theorem test_witness_DecodeOfEncodeAgrees :
    (Instr.cmdStatus 0x21#8).wellFormed = true ∧ encode .hsPoll = some (.tx .dataExchange [0x90#8] .mark) := by decide

theorem test_witness_HalfDegreeRoundTrip : encodeDegrees (5 / 2) = some 0x05#8 ∧ encodeDegrees (-257 / 4) = some 0x80#8 := by
  constructor
  · norm_num [encodeDegrees, halfDegrees, Int.floor_eq_iff]
  · norm_num [encodeDegrees, halfDegrees, Int.floor_eq_iff]; decide

theorem test_witness_SettingsWordOfThermoSettings :
    settingsWord ⟨.comfort, 5 / 2, -3 / 2, true, .off, true⟩ = some 0x09FD0503#32 := by
  have h1 : ⌊2 * (5 / 2 : ℚ) + 1 / 2⌋ = 5 := by rw [Int.floor_eq_iff]; norm_num
  have h2 : ⌊2 * (-3 / 2 : ℚ) + 1 / 2⌋ = -3 := by rw [Int.floor_eq_iff]; norm_num
  simp only [settingsWord, encodeDegrees, halfDegrees, h1, h2]
  decide

end Sys2Proof.Tests
end

section
/-! SUPPORT. What a step can be, said once: a host agent's turn, or one micro-step of the engine's program. -/

namespace Sys2Proof.Machine

/-! ### What every next state of an outcome meets -/

/-- Every next state of the outcome `o` meets `P`; a fault and a refusal have none. -/
def Ensures (o : Out) (P : State → Prop) : Prop := ∀ t, o = .next t → P t

theorem ensures_next {s : State} {P : State → Prop} : Ensures (.next s) P ↔ P s :=
  ⟨fun h => h s rfl, fun h t ht => by cases ht; exact h⟩

theorem ensures_fault (f : Fault) (P : State → Prop) : Ensures (.fault f) P := fun _ h => nomatch h

theorem Ensures.mono {o : Out} {P Q : State → Prop} (h : Ensures o P) (hpq : ∀ t, P t → Q t) : Ensures o Q :=
  fun t ht => hpq t (h t ht)

theorem ensures_withDev {s : State} {h : Nat} {k : RegisterSet → Out} {P : State → Prop}
    (hk : ∀ d, s.devs[h]? = some d → Ensures (k d) P) : Ensures (withDev s h k) P := by
  intro t ht
  obtain ⟨d, hd, hkd⟩ := withDev_next ht
  exact hk d hd t hkd

theorem ensures_withPollEntry {s : State} {k : Byte → Out} {P : State → Prop}
    (hk : ∀ a, pollList[s.pi]? = some a → Ensures (k a) P) : Ensures (withPollEntry s k) P := by
  intro t ht
  obtain ⟨a, ha, hka⟩ := withPollEntry_next ht
  exact hk a ha t hka

/-- A checked acknowledgement receive: gone on after the acknowledgement, aborted after any other string. -/
theorem ensures_expectAck {e : AckLen} {s : State} {k : State → State} {P : State → Prop}
    (hok : received (ackBytes e).length s = ackBytes e → P (k (receive (ackBytes e).length .long s)))
    (habort : P (raiseAbort (receive (ackBytes e).length .long s))) : Ensures ((expectAck e s).andThen k) P := by
  rw [expectAck_eq]
  split
  · exact ensures_next.2 (hok ‹_›)
  · exact ensures_next.2 habort

/-- A checked message receive: gone on after an accepted message, aborted after any other string. -/
theorem ensures_expectMsg {n : Nat} {header : Bytes} {s : State} {k : State → State} {P : State → Prop}
    (hok : accepts n header (received n s) = true → P (k (receive n .long s)))
    (habort : P (raiseAbort (receive n .long s))) : Ensures ((expectMsg n header s).andThen k) P := by
  rw [expectMsg_eq]
  split
  · exact ensures_next.2 (hok ‹_›)
  · exact ensures_next.2 habort

/-- An accepted message has its full length. -/
theorem length_of_accepts {n : Nat} {header r : Bytes} (h : accepts n header r = true) : n ≤ r.length := by
  simp only [accepts, Bool.and_eq_true, decide_eq_true_eq] at h
  exact h.1.1

/-! ### A step (00_scope.md R13) -/

/-- A step that has a next state ran an instruction or found nothing to run, and the turn passed. -/
theorem step_next {s t : State} (h : step s = .next t) :
    (∃ u, fetch s = .idle u ∧ t = nextTurn u) ∨
      ∃ i u v, fetch s = .run i u ∧ exec i u = .next v ∧ t = nextTurn v := by
  unfold step at h
  split at h
  · obtain ⟨v, hv, rfl⟩ := afterExec_next h
    exact .inr ⟨_, _, v, ‹_›, hv, rfl⟩
  · cases h
  · cases h
    exact .inl ⟨_, ‹_›, rfl⟩

/-! ### The engine's step (42_engine.md R245) -/

/-- A micro-step belongs to the part of the program of its owner; E99 belongs to no one part. -/
theorem mem_stateLabels_owner (l : Label) (st : EngineState) : l = .e99 ∨ l ∈ stateLabels (l.owner st) := by
  cases l <;> simp [Label.owner, stateLabels]

/-- The row of an engine state, run at one of its own micro-steps or at E99, is that micro-step. -/
theorem exec_stateRow {q : EngineState} {s : State} (hr : s.phase = .run)
    (hl : s.mpc = .e99 ∨ s.mpc ∈ stateLabels q) : exec (stateRow q) s = microStep (jump s.mpc s) := by
  have row (q' : EngineState) (entry : Label) (hl' : s.mpc = .e99 ∨ s.mpc ∈ stateLabels q') :
      engineStep q' entry s = microStep (jump s.mpc s) := by
    simp [engineStep, hr, enterState, hl']
  cases q with
  | setup => exact row .drainSettings .e01 (hl.imp_right (nomatch ·))
  | drainSettings => exact row _ _ hl
  | checkRemoteEnabled => exact row _ _ hl
  | dormant => exact row _ _ hl
  | waitForPoll => exact row _ _ hl
  | headerExchange => exact row _ _ hl
  | dataExchange => exact row _ _ hl
  | pollSiblings => exact row _ _ hl

/-- A micro-step that writes `st` writes the state that already goes with it. -/
theorem entryState_getD_of_stateAgrees {l : Label} {st : EngineState} (h : stateAgrees l st) :
    l.entryState.getD st = st := by
  cases l <;> simp_all [stateAgrees, Label.owner, Label.entryState]

/-- In a sound position the first action of the micro-step changes nothing. -/
theorem jump_mpc_self {s : State} (h : stateAgrees s.mpc s.st) : jump s.mpc s = s := by
  simp [jump, entryState_getD_of_stateAgrees h]

/-- The engine's step from a sound state: nothing in the setup phase, one micro-step in the run phase. -/
theorem step_engine_cases {s t : State} (hi : s.Inv) (ht : s.turn = .engine) (h : step s = .next t) :
    (s.phase = .setup ∧ t = nextTurn s) ∨
      (s.phase = .run ∧ ∃ u, microStep s = .next u ∧ t = nextTurn u) := by
  cases hp : s.phase with
  | setup =>
    refine .inl ⟨rfl, ?_⟩
    simpa [step, fetch, ht, hp] using h.symm
  | run =>
    have hx : exec (engineInstr s) s = microStep s :=
      (exec_stateRow hp (mem_stateLabels_owner s.mpc s.st)).trans (by rw [jump_mpc_self (hi.position hp).state])
    have ha : afterExec (microStep s) = .next t := by simpa [step, fetch, ht, hp, hx] using h
    exact .inr ⟨rfl, afterExec_next ha⟩

/-! ### The host agents' step (00_scope.md R11, 30_encoding.md R126) -/

/-- A legal host command word is one of the four commands. -/
theorem decodeHost_cases {w : HostWord} {i : Instr} (h : decodeHost w = .ok i) :
    (∃ d p r, i = .addInstance d p r) ∨ i = .start ∨ (∃ a v, i = .sendSettings a v) ∨ i = .receiveReadings := by
  simp only [decodeHost] at h
  split_ifs at h <;> cases h
  · exact .inl ⟨_, _, _, rfl⟩
  · exact .inr (.inl rfl)
  · exact .inr (.inr (.inl ⟨_, _, rfl⟩))
  · exact .inr (.inr (.inr rfl))

/-- What the fetch finds in a command word: the command it is, in the same state. -/
theorem fetchHost_run {w : HostWord} {s u : State} {i : Instr} (h : fetchHost w s = .run i u) :
    decodeHost w = .ok i ∧ u = s := by
  unfold fetchHost decode at h
  split at h
  · cases h
    exact ⟨‹_›, rfl⟩
  · cases h

theorem fetchHost_ne_idle (w : HostWord) (s u : State) : fetchHost w s ≠ .idle u := by
  unfold fetchHost
  split <;> exact nofun

/-- At a host's turn the fetch uses up words held ready and draws only; it finds a command word or nothing. -/
theorem fetch_host {s : State} (ht : s.turn = .host) :
    ∃ q k, fetch s = .idle { s with hostIn := q, draws := k } ∨
      ∃ w, fetch s = fetchHost w { s with hostIn := q, draws := k } := by
  cases hq : s.hostIn with
  | cons w q => exact ⟨q, s.draws, .inr ⟨w, by simp [fetch, ht, hq]⟩⟩
  | nil =>
    refine ⟨s.hostIn, s.draws + 1, ?_⟩
    cases hc : Config.hostCommand s.draws with
    | some w => exact .inr ⟨w, by simp [fetch, ht, hq, hc, drawn]⟩
    | none => exact .inl (by simp [fetch, ht, hq, hc, drawn])

/-- The host agents' step: nothing, or the command that a legal command word is. -/
theorem step_host_cases {s t : State} (ht : s.turn = .host) (h : step s = .next t) :
    ∃ q k, t = nextTurn { s with hostIn := q, draws := k } ∨
      ∃ w i v, decodeHost w = .ok i ∧ exec i { s with hostIn := q, draws := k } = .next v ∧ t = nextTurn v := by
  obtain ⟨q, k, hf⟩ := fetch_host ht
  refine ⟨q, k, ?_⟩
  obtain ⟨u, hu, rfl⟩ | ⟨i, u, v, hu, hv, rfl⟩ := step_next h
  · obtain hf | ⟨w, hf⟩ := hf
    · left
      cases hf.symm.trans hu
      rfl
    · exact absurd (hf.symm.trans hu) (fetchHost_ne_idle _ _ _)
  · obtain hf | ⟨w, hf⟩ := hf
    · cases hf.symm.trans hu
    · obtain ⟨hw, rfl⟩ := fetchHost_run (hf.symm.trans hu)
      exact .inr ⟨w, i, v, hw, hv, rfl⟩

end Sys2Proof.Machine
end

section
/-! PROOFS. The writers of the register sets' mutable fields (10_state.md R41). -/

namespace Sys2Proof.Machine

open Sys2Proof.Claims

/-! ### What the host commands do to the register file -/

/-- A host command adds register sets at most; it changes none. -/
theorem exec_host_devs {w : HostWord} {i : Instr} {s t : State} (hw : decodeHost w = .ok i)
    (h : exec i s = .next t) : ∃ ds, t.devs = s.devs ++ ds := by
  obtain ⟨d, p, r, rfl⟩ | rfl | ⟨a, v, rfl⟩ | rfl := decodeHost_cases hw
  · change execAddInstance d p r s = .next t at h
    unfold execAddInstance at h
    split at h <;> cases h
    exact ⟨_, rfl⟩
  · change execStart s = .next t at h
    unfold execStart at h
    split_ifs at h
    cases h
    exact ⟨[], (List.append_nil _).symm⟩
  · change execSendSettings a v s = .next t at h
    unfold execSendSettings at h
    split_ifs at h
    cases h
    exact ⟨[], (List.append_nil _).symm⟩
  · cases h
    exact ⟨[], (List.append_nil _).symm⟩

/-! ### What the micro-steps do to the register file -/

/-- The complete list of R41: the micro-step at which `s` stands writes register set `h` by `f`; `r` is `RXB` after the
micro-step. -/
inductive RegisterWrite (s : State) (r : Bytes) : Nat → (RegisterSet → RegisterSet) → Prop
  /-- E02 applies the settings value of a visited handle (43_registry_mailboxes.md R288). -/
  | drain {h : Nat} {w : Settings} (label : s.mpc = .e02) (visited : s.pend.head? = some h)
      (letter : s.sm[h]? = some (some w)) : RegisterWrite s r h (applyToRegisters w)
  /-- X07 stashes bytes 16 and 20 of the status reply (42_engine.md R227). -/
  | status {b c : Byte} (label : s.mpc = .x07) (reduced : s.rxb[16]? = some b) (comfort : s.rxb[20]? = some c) :
      RegisterWrite s r s.hdl (withSetpoints b c)
  /-- E21 takes the skip flag from byte 5 of the header reply it received (42_engine.md R220). -/
  | header {b : Byte} (label : s.mpc = .e21) (flags : r[5]? = some b) :
      RegisterWrite s r s.cur (withSkip (b.getLsbD 0))
  /-- E43 clears the simulated sibling's skip flag (42_engine.md R239). -/
  | sibling {g : Nat} (label : s.mpc = .e43) (other : s.hdl ≠ g) : RegisterWrite s r g (withSkip false)

/-- The register file after a micro-step: as before, or with one write of the complete list. -/
def DevsWritten (s t : State) : Prop :=
  t.devs = s.devs ∨ ∃ h f, RegisterWrite s t.rxb h f ∧ t.devs = s.devs.modify h f

/-! The four writers. -/

/-- E02 (42_engine.md R212). -/
theorem microDrain_devsWritten {s : State} (hl : s.mpc = .e02) : Ensures (microDrain s) (DevsWritten s) := by
  unfold microDrain
  split
  · exact ensures_next.2 (.inl rfl)
  · next h rest hp =>
    refine ensures_withDev fun d _ => ?_
    split
    · next v hv =>
      refine ensures_next.2 ?_
      have hdevs : (drainStep h rest v s).devs = (drainOne h v { s with pend := rest }).devs := by
        unfold drainStep; split <;> rfl
      cases v with
      | none => exact .inl hdevs
      | some w => exact .inr ⟨h, _, .drain hl (by rw [hp]; rfl) hv, hdevs⟩
    · exact ensures_fault _ _

/-- X07 (42_engine.md R227). -/
theorem microTakeStatus_devsWritten {s : State} (hl : s.mpc = .x07) : Ensures (microTakeStatus s) (DevsWritten s) := by
  refine ensures_withDev fun d _ => ?_
  split
  · exact ensures_fault _ _
  · next hlen =>
    have byte (i : Nat) (hi : i ≤ 20) : s.rxb[i]? = some (s.rxb.getD i 0x00#8) := by
      rw [List.getD_eq_getElem?_getD, List.getElem?_eq_getElem (by omega), Option.getD_some]
    exact ensures_next.2 (.inr ⟨s.hdl, _, .status hl (byte 16 (by omega)) (byte 20 (by omega)), rfl⟩)

/-- E21 (42_engine.md R219, R220). -/
theorem microHdrReply_devsWritten {s : State} (hl : s.mpc = .e21) : Ensures (microHdrReply s) (DevsWritten s) := by
  refine ensures_withDev fun d _ => ensures_expectMsg (fun hok => .inr ?_) (.inl ?_)
  · have hlen : 5 < (received 9 s).length := Nat.lt_of_lt_of_le (by decide) (length_of_accepts hok)
    have hskip : headerSkip (received 9 s) = (received 9 s)[5].getLsbD 0 := by simp [headerSkip, hlen]
    refine ⟨s.cur, withSkip ((received 9 s)[5].getLsbD 0), .header hl ?_, ?_⟩
    · exact List.getElem?_eq_getElem hlen
    · simp [headerAccepted, hskip]
  · simp

/-- A simulated sibling is a register set other than the one worked on (42_engine.md R238). -/
theorem siblingOf_ne {a : Byte} {d : RegisterSet} {s : State} {g : Nat} (h : siblingOf a d s = some g) :
    s.hdl ≠ g := by
  unfold siblingOf at h
  split_ifs at h
  split at h
  · split_ifs at h with hg
    cases h
    exact Ne.symm hg
  · cases h

/-- E43 (42_engine.md R238, R239). -/
theorem microSibling_devsWritten {s : State} (hl : s.mpc = .e43) : Ensures (microSibling s) (DevsWritten s) := by
  refine ensures_withPollEntry fun a _ => ensures_withDev fun d _ => ?_
  split
  · next g hg => exact ensures_next.2 (.inr ⟨g, _, .sibling hl (siblingOf_ne hg), rfl⟩)
  · exact ensures_next.2 (.inl rfl)

/-! The other micro-steps leave the register file as it is. -/

/-- A checked acknowledgement receive and what follows it, where that leaves the register file. -/
theorem expectAck_devs {e : AckLen} {s : State} {k : State → State} (hk : ∀ u, (k u).devs = u.devs) :
    Ensures ((expectAck e s).andThen k) fun t => t.devs = s.devs :=
  ensures_expectAck (fun _ => by rw [hk, receive_devs]) (by simp)

/-- A checked message receive and what follows it, where that leaves the register file. -/
theorem expectMsg_devs {n : Nat} {header : Bytes} {s : State} {k : State → State} (hk : ∀ u, (k u).devs = u.devs) :
    Ensures ((expectMsg n header s).andThen k) fun t => t.devs = s.devs :=
  ensures_expectMsg (fun _ => by rw [hk, receive_devs]) (by simp)

theorem microCheck_devs (s : State) : (microCheck s).devs = s.devs := by
  unfold microCheck; split <;> rfl

theorem microPollFilter_devs (s : State) : (microPollFilter s).devs = s.devs := by
  unfold microPollFilter pollFilter
  split
  · rfl
  · split
    · split <;> rfl
    · rfl

theorem microListenCheck_devs (s : State) : (microListenCheck s).devs = s.devs := by
  unfold microListenCheck
  split_ifs <;> rfl

theorem microPatch_devs (s : State) : Ensures (microPatch s) fun t => t.devs = s.devs := by
  refine ensures_withDev fun d _ => ?_
  split
  · exact ensures_fault _ _
  · split
    · exact ensures_next.2 rfl
    · exact ensures_fault _ _

theorem microPollNext_devs (s : State) : Ensures (microPollNext s) fun t => t.devs = s.devs := by
  unfold microPollNext
  split
  · exact ensures_next.2 rfl
  · exact ensures_withPollEntry fun _ _ => ensures_next.2 rfl

/-- Every micro-step but E02, X07, E21 and E43 leaves the register file as it is. -/
theorem microStep_devs {s : State} (hl : s.mpc ∉ [Label.e02, .x07, .e21, .e43]) :
    Ensures (microStep s) fun t => t.devs = s.devs := by
  unfold microStep
  cases h : s.mpc with
  | e02 | x07 | e21 | e43 => simp [h] at hl
  | e01 | e04 | e22 | e48 | e99 => exact ensures_next.2 rfl
  | e03 => exact ensures_next.2 (microCheck_devs s)
  | e05 => exact ensures_next.2 (receive_devs 1 .short s)
  | e06 => exact ensures_next.2 (microPollFilter_devs s)
  | e20 => exact ensures_withDev fun _ _ => ensures_next.2 (sendFrame_devs _ _ _ _)
  | e40 => exact ensures_withDev fun _ _ => ensures_next.2 rfl
  | e41 => exact microPollNext_devs s
  | e42 => exact ensures_withPollEntry fun _ _ => ensures_next.2 (sendFrame_devs _ _ _ _)
  | e44 => exact ensures_next.2 (receive_devs 2 .short s)
  | e45 => exact ensures_next.2 (microListenCheck_devs s)
  | e46 | x04 | x11 => exact ensures_withDev fun _ _ => ensures_next.2 (sendFrame_devs _ _ _ (buildFrame _ s))
  | e47 | x03 | x05 | x10 | x12 | x16 | x19 => exact expectAck_devs fun _ => rfl
  | x06 | x13 => exact expectMsg_devs fun _ => rfl
  | x01 | x02 | x08 | x09 | x14 | x15 | x18 => exact ensures_next.2 (sendFrame_devs _ _ _ _)
  | x17 => exact microPatch_devs s

/-- The list of R41 is complete for the engine's program. -/
theorem microStep_devsWritten (s : State) : Ensures (microStep s) (DevsWritten s) := by
  by_cases hl : s.mpc ∈ [Label.e02, .x07, .e21, .e43]
  · simp only [List.mem_cons, List.not_mem_nil, or_false] at hl
    obtain h | h | h | h := hl
    · simpa [microStep, h] using microDrain_devsWritten h
    · simpa [microStep, h] using microTakeStatus_devsWritten h
    · simpa [microStep, h] using microHdrReply_devsWritten h
    · simpa [microStep, h] using microSibling_devsWritten h
  · exact (microStep_devs hl).mono fun _ => .inl

/-! ### What a step does to the register file -/

/-- A step adds register sets, or makes one write of the complete list of R41. -/
theorem step_devs {s t : State} (hi : s.Inv) (h : step s = .next t) :
    (∃ ds, t.devs = s.devs ++ ds) ∨
      s.turn = .engine ∧ ∃ k f, RegisterWrite s t.rxb k f ∧ t.devs = s.devs.modify k f := by
  cases ht : s.turn with
  | host =>
    obtain ⟨q, k, rfl | ⟨w, i, v, hw, hv, rfl⟩⟩ := step_host_cases ht h
    · exact .inl ⟨[], (List.append_nil _).symm⟩
    · obtain ⟨ds, hds⟩ := exec_host_devs hw hv
      exact .inl ⟨ds, hds⟩
  | engine =>
    obtain ⟨-, rfl⟩ | ⟨-, u, hu, rfl⟩ := step_engine_cases hi ht h
    · exact .inl ⟨[], (List.append_nil _).symm⟩
    · obtain hsame | hwrite := microStep_devsWritten s u hu
      · exact .inl ⟨[], by simp [hsame]⟩
      · exact .inr ⟨rfl, hwrite⟩

/-- R130's DIP switch byte is the one that the statements write out. -/
theorem dipByte_eq_dipOf (b : Bool) : dipByte b = dipOf b := by
  cases b <;> decide

/-- The model's APPLY_SETTINGS is the one that the statements write out (43_registry_mailboxes.md R288). -/
theorem applyToRegisters_eq_applied (w : Settings) (d : RegisterSet) : applyToRegisters w d = applied w d := by
  simp [applyToRegisters, applied, settingsSel, settingsKnob, settingsMeas, settingsDip, settingsIgn, dipByte_eq_dipOf]

/-- Settles O48: a step appends register sets, which changes none, or makes one write of R41's list. -/
theorem registerWriters : Obligations.RegisterWriters := by
  intro s t h d e hi hstep hd he hne
  obtain ⟨ds, happ⟩ | ⟨hturn, k, f, hw, hmod⟩ := step_devs hi hstep
  · rw [happ, List.getElem?_append_left (List.getElem?_eq_some_iff.1 hd).1, hd] at he
    exact absurd (Option.some.inj he) hne
  · rw [hmod, List.getElem?_modify, hd] at he
    by_cases hk : k = h
    · subst hk
      obtain rfl : f d = e := by simpa using he
      refine ⟨hturn, ?_⟩
      cases hw with
      | drain hl hp hs => exact .inl ⟨hl, hp, _, hs, applyToRegisters_eq_applied _ d⟩
      | status hl hr hc => exact .inr (.inl ⟨hl, rfl, _, _, hr, hc, rfl⟩)
      | header hl hf => exact .inr (.inr (.inl ⟨hl, rfl, _, hf, rfl⟩))
      | sibling hl hg => exact .inr (.inr (.inr ⟨hl, hg, rfl⟩))
    · exact absurd (by simpa [hk] using he) hne

end Sys2Proof.Machine
end

section
/-! PROOFS. The host words that a host agent's step refuses (30_encoding.md R126, R136). -/

namespace Sys2Proof.Machine

/-! ### Adjacent fields -/

/-- Two adjacent fields that are 0 are one wider field that is 0. -/
theorem extractLsb'_add_eq_zero {w k m n : Nat} {x : BitVec w} (hhi : x.extractLsb' (k + m) n = 0#n)
    (hlo : x.extractLsb' k m = 0#m) : x.extractLsb' k (n + m) = 0#(n + m) := by
  rw [← BitVec.extractLsb'_append_extractLsb'_eq_extractLsb' rfl, hhi, hlo, BitVec.zero_append_zero]

/-- R126's fields between `CMD` and `ARG`, all 0. -/
theorem extractLsb'_above_arg_eq_zero {w : HostWord} (htop : w.extractLsb' 48 12 = 0#12)
    (hhandle : w.extractLsb' 40 8 = 0#8) (hmid : w.extractLsb' 32 8 = 0#8) : w.extractLsb' 32 28 = 0#28 :=
  have habove : w.extractLsb' 40 20 = 0#20 := extractLsb'_add_eq_zero (m := 8) (n := 12) htop hhandle
  extractLsb'_add_eq_zero (m := 8) (n := 20) habove hmid

/-! ### What the decoder answers for each `CMD` -/

theorem decodeHost_reservedCommand {w : HostWord}
    (hc : w.extractLsb' 60 4 = 0#4 ∨ 5 ≤ (w.extractLsb' 60 4).toNat) : decodeHost w = .error .reservedCommand := by
  have hnot : ∀ c : BitVec 4, c = 0#4 ∨ 5 ≤ c.toNat → c ≠ 1#4 ∧ c ≠ 2#4 ∧ c ≠ 3#4 ∧ c ≠ 4#4 := by decide
  obtain ⟨h1, h2, h3, h4⟩ := hnot _ hc
  simp only [decodeHost, h1, h2, h3, h4, if_false]

theorem decodeHost_addInstance_reservedField {w : HostWord} (hc : w.extractLsb' 60 4 = 1#4)
    (hr : w.extractLsb' 24 36 ≠ 0#36) : decodeHost w = .error .reservedField := by
  simp only [decodeHost, hc, if_true]
  refine if_pos (by_contra fun hzero => hr ?_)
  simp only [Bool.or_eq_true, bne_iff_ne, not_or, not_not] at hzero
  obtain ⟨⟨⟨htop, hmid⟩, hhandle⟩, harg⟩ := hzero
  rw [BitVec.extractLsb'_extractLsb'_of_le (by decide)] at harg
  exact extractLsb'_add_eq_zero (m := 8) (n := 28) (extractLsb'_above_arg_eq_zero htop hhandle hmid) harg

/-- START and RECEIVE_READINGS have no operand. -/
theorem decodeHost_noOperand_reservedField {w : HostWord}
    (hc : w.extractLsb' 60 4 = 2#4 ∨ w.extractLsb' 60 4 = 4#4) (hr : w.extractLsb' 0 60 ≠ 0#60) :
    decodeHost w = .error .reservedField := by
  have hfields : (w.extractLsb' 48 12 != 0#12 || w.extractLsb' 32 8 != 0#8 || w.extractLsb' 40 8 != 0#8 ||
      w.extractLsb' 0 32 != 0#32) = true := by
    by_contra hzero
    simp only [Bool.or_eq_true, bne_iff_ne, not_or, not_not] at hzero
    obtain ⟨⟨⟨htop, hmid⟩, hhandle⟩, harg⟩ := hzero
    exact hr (extractLsb'_add_eq_zero (m := 32) (n := 28) (extractLsb'_above_arg_eq_zero htop hhandle hmid) harg)
  obtain hc | hc := hc
  · simp [decodeHost, hc, hfields]
  · simp [decodeHost, hc, hfields]

theorem decodeHost_sendSettings_reservedField {w : HostWord} (hc : w.extractLsb' 60 4 = 3#4)
    (hr : w.extractLsb' 48 12 ≠ 0#12 ∨ w.extractLsb' 32 8 ≠ 0#8) : decodeHost w = .error .reservedField := by
  simp [decodeHost, hc, hr]

theorem decodeHost_sendSettings {w : HostWord} (hc : w.extractLsb' 60 4 = 3#4)
    (htop : w.extractLsb' 48 12 = 0#12) (hmid : w.extractLsb' 32 8 = 0#8) :
    decodeHost w = .ok (.sendSettings (w.extractLsb' 40 8) (w.extractLsb' 0 32)) := by
  simp [decodeHost, hc, htop, hmid]

/-! ### The step on a word held ready -/

section Held

variable {s : State} {w : HostWord} {q : List HostWord} (ht : s.turn = .host) (hq : s.hostIn = w :: q)
include ht hq

theorem fetch_host_held : fetch s = fetchHost w { s with hostIn := q } := by
  simp [fetch, ht, hq]

theorem step_host_error {e : DecodeError} (he : decodeHost w = .error e) : step s = .refused (refusalOf e) := by
  simp [step, fetch_host_held ht hq, fetchHost, decode, he]

theorem step_host_ok {i : Instr} (hi : decodeHost w = .ok i) :
    step s = afterExec (exec i { s with hostIn := q }) := by
  simp [step, fetch_host_held ht hq, fetchHost, decode, hi]

end Held

/-! ### Illegal SETTINGS words -/

theorem selectorOk_iff (b : Byte) : selectorOk b = true ↔ b ∈ [0x00#8, 0x03#8, 0x04#8] := by
  simp [selectorOk, or_assoc]

/-- A host word's SETTINGS word is illegal where its selector or its reserved bits are. -/
theorem settingsOk_arg_eq_false {w : HostWord}
    (h : w.extractLsb' 0 8 ∉ [0x00#8, 0x03#8, 0x04#8] ∨ w.extractLsb' 28 4 ≠ 0#4) :
    settingsOk (w.extractLsb' 0 32) = false := by
  have hsel : settingsSel (w.extractLsb' 0 32) = w.extractLsb' 0 8 :=
    BitVec.extractLsb'_extractLsb'_of_le (by decide)
  have hres : settingsReserved (w.extractLsb' 0 32) = w.extractLsb' 28 4 :=
    BitVec.extractLsb'_extractLsb'_of_le (by decide)
  rw [settingsOk, hsel, hres, Bool.and_eq_false_iff, ← Bool.not_eq_true, selectorOk_iff]
  exact h.imp_right beq_eq_false_iff_ne.2

theorem exec_sendSettings (h : Byte) (v : Settings) (s : State) :
    exec (.sendSettings h v) s = execSendSettings h v s := rfl

/-- SEND_SETTINGS of an illegal word is refused, for its handle or for the word (43_registry_mailboxes.md R287). -/
theorem exec_sendSettings_illegal {v : Settings} (hv : settingsOk v = false) (h : Byte) (s : State) :
    ∃ r ∈ [Refusal.badHandle, .badSettings], exec (.sendSettings h v) s = .refused r := by
  rw [exec_sendSettings]
  by_cases hh : s.count ≤ h.toNat
  · exact ⟨.badHandle, by simp, by simp [execSendSettings, hh]⟩
  · exact ⟨.badSettings, by simp, by simp [execSendSettings, hh, hv]⟩

/-- Settles O22: the decoder rejects a reserved `CMD` and a non-zero reserved field, and SEND_SETTINGS refuses an
illegal SETTINGS word. -/
theorem illegalHostWordsAreRefused : Obligations.IllegalHostWordsAreRefused := by
  intro s w q ht hq
  refine ⟨fun hc => step_host_error ht hq (decodeHost_reservedCommand hc), fun hr => ?_,
    fun hc htop hmid hbad => ?_⟩
  · apply step_host_error ht hq (e := .reservedField)
    obtain ⟨hc, hr⟩ | ⟨hc, hr⟩ | ⟨hc, hr⟩ := hr
    · exact decodeHost_addInstance_reservedField hc hr
    · exact decodeHost_noOperand_reservedField hc hr
    · exact decodeHost_sendSettings_reservedField hc hr
  · obtain ⟨r, hr, hx⟩ := exec_sendSettings_illegal (settingsOk_arg_eq_false hbad) (w.extractLsb' 40 8)
      { s with hostIn := q }
    exact ⟨r, hr, by rw [step_host_ok ht hq (decodeHost_sendSettings hc htop hmid), hx, afterExec]⟩

end Sys2Proof.Machine
end

section
/-! PROOFS. The framing and CRC unit (40_codec.md R163 to R172): its operations, equation by equation, and the
detection of a single changed byte. -/

namespace Sys2Proof.Machine

open Sys2Proof.Claims

/-! ### Ranges of a buffer (00_scope.md R19) -/

/-- A write inside the range is a write to what is read. -/
theorem memRead_set_inside (m : Bytes) (k n i : Nat) (x : Byte) :
    memRead (m.set (k + i) x) k n = (memRead m k n).set i x := by
  simp [memRead, List.drop_set, List.take_set]

theorem memRead_set_outside {m : Bytes} {k n i : Nat} (x : Byte) (h : i < k ∨ k + n ≤ i) :
    memRead (m.set i x) k n = memRead m k n := by
  obtain hlt | hge := h
  · rw [memRead, List.drop_set_of_lt hlt, memRead]
  · obtain ⟨d, rfl⟩ := Nat.exists_eq_add_of_le hge
    rw [Nat.add_assoc, memRead_set_inside, List.set_eq_of_length_le]
    exact (List.length_take_le _ _).trans (Nat.le_add_right n d)

theorem getElem?_memRead {m : Bytes} {k n i : Nat} (h : i < n) : (memRead m k n)[i]? = m[k + i]? := by
  rw [memRead, List.getElem?_take_of_lt h, List.getElem?_drop]

theorem length_memRead {m : Bytes} {k n : Nat} (h : k + n ≤ m.length) : (memRead m k n).length = n := by
  rw [memRead, List.length_take, List.length_drop]
  omega

/-- A range that ends inside the first `n` bytes does not see the bytes after them. -/
theorem memRead_take {m : Bytes} {k l n : Nat} (h : k + l ≤ n) : memRead (m.take n) k l = memRead m k l := by
  rw [memRead, memRead, List.drop_take, List.take_take, Nat.min_eq_left (by omega)]

/-! ### The CRC register tells any two bytes apart -/

/-- The two halves of a CRC value determine it. -/
theorem eq_of_lo8_of_hi8 {x y : Crc} (hlo : lo8 x = lo8 y) (hhi : hi8 x = hi8 y) : x = y := by
  have hsplit (c : Crc) : hi8 c ++ lo8 c = c := by
    rw [hi8, lo8, BitVec.extractLsb'_append_extractLsb'_eq_extractLsb' (show 8 = 0 + 8 from rfl)]
    exact BitVec.extractLsb'_eq_self
  rw [← hsplit x, ← hsplit y, hlo, hhi]

/-- Bit 15 after a shift is the bit shifted out: only the polynomial sets it. -/
theorem getLsbD_crcShift_top (c : Crc) : (crcShift c).getLsbD 15 = c.getLsbD 0 := by
  unfold crcShift
  split
  next h => simpa using h.symm
  next h => simpa using h

/-- A shift loses nothing: bit 15 says which bit went out, and so whether the polynomial came in. -/
theorem crcShift_injective : Function.Injective crcShift := by
  intro a b h
  have hout : a.getLsbD 0 = b.getLsbD 0 := by
    rw [← getLsbD_crcShift_top, h, getLsbD_crcShift_top]
  have hrest : a >>> 1 = b >>> 1 := by
    unfold crcShift at h
    rw [hout] at h
    split at h
    · exact (BitVec.xor_left_inj _).1 h
    · exact h
  refine BitVec.eq_of_getLsbD_eq fun i _ => ?_
  cases i with
  | zero => exact hout
  | succ i =>
    have hbit := congrArg (·.getLsbD i) hrest
    simpa [Nat.add_comm] using hbit

theorem repeat_injective {α : Type} {f : α → α} (hf : Function.Injective f) (n : Nat) :
    Function.Injective (Nat.repeat f n) := by
  induction n with
  | zero => exact fun _ _ h => h
  | succ n ih => exact hf.comp ih

theorem crcByte_left_injective (b : Byte) : Function.Injective (crcByte · b) :=
  fun _ _ h => (BitVec.xor_left_inj _).1 (repeat_injective crcShift_injective 8 h)

theorem crcByte_right_injective (c : Crc) : Function.Injective (crcByte c) := by
  intro a b h
  have hwide : a.setWidth 16 = b.setWidth 16 :=
    (BitVec.xor_right_inj _).1 (repeat_injective crcShift_injective 8 h)
  simpa using congrArg (BitVec.setWidth 8) hwide

theorem crcFrom_injective (bytes : Bytes) : Function.Injective (crcFrom · bytes) := by
  induction bytes with
  | nil => exact fun _ _ h => h
  | cons b bs ih => exact ih.comp (crcByte_left_injective b)

/-- A change of one byte that keeps the CRC register is no change. -/
theorem eq_of_crcFrom_set {c : Crc} {l : Bytes} {i : Nat} {b x : Byte} (hb : l[i]? = some b)
    (h : crcFrom c (l.set i x) = crcFrom c l) : x = b := by
  induction l generalizing c i with
  | nil => simp at hb
  | cons a l ih =>
    cases i with
    | zero =>
      obtain rfl : a = b := by simpa using hb
      exact crcByte_right_injective c (crcFrom_injective l h)
    | succ i => exact ih (by simpa using hb) h

/-! ### CRC_COMPUTE and CRC_INSERT -/

theorem crcCompute_of_le {b : Bytes} {k n : Nat} (h : k + n ≤ b.length) :
    crcCompute b k n = some (crc16k (memRead b k n)) := if_pos h

theorem crcCompute_of_lt {b : Bytes} {k n : Nat} (h : b.length < k + n) : crcCompute b k n = none :=
  if_neg (by omega)

/-- A buffer after CRC_INSERT, where the range fits. -/
def crcInserted (b : Bytes) (k n : Nat) : Bytes :=
  (b.set (k + n) (lo8 (crc16k (memRead b k n)))).set (k + n + 1) (hi8 (crc16k (memRead b k n)))

theorem crcInsert_of_le {b : Bytes} {k n : Nat} (h : k + n + 2 ≤ b.length) :
    crcInsert b k n = some (crcInserted b k n) := by
  rw [crcInsert, if_pos h, crcCompute_of_le (by omega)]
  rfl

theorem crcInsert_of_lt {b : Bytes} {k n : Nat} (h : b.length < k + n + 2) : crcInsert b k n = none :=
  if_neg (by omega)

@[simp] theorem length_crcInserted (b : Bytes) (k n : Nat) : (crcInserted b k n).length = b.length := by
  simp [crcInserted]

theorem crcInserted_lo {b : Bytes} {k n : Nat} (h : k + n + 2 ≤ b.length) :
    (crcInserted b k n)[k + n]? = some (lo8 (crc16k (memRead b k n))) := by
  rw [crcInserted, List.getElem?_set_ne (by omega), List.getElem?_set_self (by omega)]

theorem crcInserted_hi {b : Bytes} {k n : Nat} (h : k + n + 2 ≤ b.length) :
    (crcInserted b k n)[k + n + 1]? = some (hi8 (crc16k (memRead b k n))) := by
  rw [crcInserted, List.getElem?_set_self (by rw [List.length_set]; omega)]

theorem crcInserted_other (b : Bytes) {k n i : Nat} (hlo : i ≠ k + n) (hhi : i ≠ k + n + 1) :
    (crcInserted b k n)[i]? = b[i]? := by
  rw [crcInserted, List.getElem?_set_ne hhi.symm, List.getElem?_set_ne hlo.symm]

/-- The covered range is not written. -/
theorem memRead_crcInserted (b : Bytes) (k n : Nat) : memRead (crcInserted b k n) k n = memRead b k n := by
  rw [crcInserted, memRead_set_outside _ (.inr (by omega)), memRead_set_outside _ (.inr (by omega))]

theorem exec_crcCompute (b : Bytes) (k n : Nat) (s : State) :
    exec (.crcCompute b k n) s = execCrcCompute b k n s := rfl

theorem exec_crcInsert (b : Bytes) (k n : Nat) (s : State) :
    exec (.crcInsert b k n) s = execCrcInsert b k n s := rfl

/-- Settles O3: the range fits or it does not, and the covered bytes alone enter the CRC. -/
theorem crcComputeReturnsCrcOfRange : Obligations.CrcComputeReturnsCrcOfRange := by
  intro b k n s
  refine ⟨fun h => ?_, fun h => ?_⟩
  · rw [exec_crcCompute, execCrcCompute, crcCompute_of_le h]
    rfl
  · rw [exec_crcCompute, execCrcCompute, crcCompute_of_lt h]

theorem exec_crcInsert_of_le {b : Bytes} {k n : Nat} (h : k + n + 2 ≤ b.length) (s : State) :
    exec (.crcInsert b k n) s = .next (returned (.buffer (crcInserted b k n)) s) := by
  rw [exec_crcInsert, execCrcInsert, crcInsert_of_le h]
  rfl

/-- Settles O4: the buffer returned is `crcInserted`, whose bytes are known one by one. -/
theorem crcInsertWritesTwoBytes : Obligations.CrcInsertWritesTwoBytes := by
  intro b k n s
  refine ⟨fun h => ⟨crcInserted b k n, exec_crcInsert_of_le h s, length_crcInserted b k n, crcInserted_lo h,
    crcInserted_hi h, fun i => crcInserted_other b⟩, fun h => ?_⟩
  rw [exec_crcInsert, execCrcInsert, crcInsert_of_lt h]

/-! ### VERIFY_MESSAGE and VERIFY_REPLY -/

/-- The four comparisons of R165. -/
theorem verifyMessage_iff (m : Bytes) (n : Nat) :
    verifyMessage m n = true ↔ 4 ≤ n ∧ m[0]? = some startByte ∧ m[n - 1]? = some endByte ∧
      m[n - 3]? = some (lo8 (crc16k (memRead m 1 (n - 4)))) ∧
      m[n - 2]? = some (hi8 (crc16k (memRead m 1 (n - 4)))) := by
  by_cases h : n < 4
  · simp [verifyMessage, h]
  · simp [verifyMessage, h, Nat.le_of_not_lt h, and_assoc]

/-- Only the first `n` bytes bear on a message of `n` bytes. -/
theorem verifyMessage_take (m : Bytes) (n : Nat) : verifyMessage (m.take n) n = verifyMessage m n := by
  rw [Bool.eq_iff_iff, verifyMessage_iff, verifyMessage_iff]
  refine and_congr_right fun h => ?_
  rw [memRead_take (by omega), List.getElem?_take_of_lt (by omega), List.getElem?_take_of_lt (by omega),
    List.getElem?_take_of_lt (by omega), List.getElem?_take_of_lt (by omega)]

/-- The first `k + 4` bytes: the start byte, the covered range, the CRC field and the end byte. -/
theorem take_message (m : Bytes) (k : Nat) :
    m.take (k + 4) =
      m[0]?.toList ++ memRead m 1 k ++ m[k + 1]?.toList ++ m[k + 2]?.toList ++ m[k + 3]?.toList := by
  have hcovered : m.take (k + 1) = m[0]?.toList ++ memRead m 1 k := by
    rw [Nat.add_comm, List.take_add, memRead, List.take_add_one, List.take_zero, List.nil_append]
  rw [List.take_add_one, List.take_add_one, List.take_add_one, hcovered]

/-- A verified message is the envelope of its covered range. -/
theorem take_eq_envelope {m : Bytes} {n : Nat} (h : verifyMessage m n = true) :
    m.take n = envelope (memRead m 1 (n - 4)) := by
  obtain ⟨hn, hstart, hend, hlo, hhi⟩ := (verifyMessage_iff m n).1 h
  obtain ⟨k, rfl⟩ := Nat.exists_eq_add_of_le' hn
  simp only [Nat.add_sub_cancel, Nat.reduceSubDiff] at hend hlo hhi ⊢
  rw [take_message, hstart, hlo, hhi, hend]
  simp [envelope]

theorem verifyMessage_iff_isMessage (m : Bytes) (n : Nat) : verifyMessage m n = true ↔ IsMessage m n := by
  constructor
  · intro h
    obtain ⟨hn, -, hend, -⟩ := (verifyMessage_iff m n).1 h
    have hlen : n - 1 < m.length := (List.getElem?_eq_some_iff.1 hend).1
    have hbody : (memRead m 1 (n - 4)).length = n - 4 := length_memRead (by omega)
    exact ⟨hn, memRead m 1 (n - 4), by omega, take_eq_envelope h⟩
  · rintro ⟨-, body, rfl, htake⟩
    have henv : m.take (body.length + 4) = envelope body := htake
    rw [← verifyMessage_take, henv, verifyMessage_envelope]

theorem exec_verifyMessage (m : Bytes) (n : Nat) (s : State) :
    exec (.verifyMessage m n) s = .next (returned (.bool (verifyMessage m n)) s) := rfl

theorem exec_verifyReply (r : Bytes) (e : AckLen) (s : State) :
    exec (.verifyReply r e) s = .next (returned (.bool (decide (r = ackBytes e))) s) := by
  rw [← beq_eq_decide]
  rfl

/-- Settles O5: a message that verifies is the envelope of its covered range, and every envelope verifies. -/
theorem verifyAcceptsExactlyEnvelopesAndAcks : Obligations.VerifyAcceptsExactlyEnvelopesAndAcks :=
  ⟨fun m n s => ⟨verifyMessage m n, exec_verifyMessage m n s, verifyMessage_iff_isMessage m n⟩,
    fun r s => ⟨exec_verifyReply r .one s, exec_verifyReply r .two s⟩⟩

/-! ### What verifies (R167, R171) -/

theorem exec_buildMessage (body : Bytes) (n : Nat) (s : State) :
    exec (.buildMessage body n) s = execBuildMessage body n s := rfl

theorem exec_buildMessage_envelope {body : Bytes} {n : Nat} (h : body.length + 4 = n) (s : State) :
    exec (.buildMessage body n) s = .next (returned (.buffer (envelope body)) s) := by
  rw [exec_buildMessage, execBuildMessage, buildMessage_eq body n h]
  rfl

/-- Settles O6: the message built is the envelope, which verifies at its own length. -/
theorem buildMessageReturnsEnvelope : Obligations.BuildMessageReturnsEnvelope := by
  intro body n s _ hlen
  refine ⟨envelope body, exec_buildMessage_envelope hlen s, rfl, ?_⟩
  rw [exec_verifyMessage, ← hlen, verifyMessage_envelope]

theorem verifyMessage_crcInserted {m : Bytes} (hlen : 4 ≤ m.length) (hstart : m[0]? = some startByte)
    (hend : m[m.length - 1]? = some endByte) :
    verifyMessage (crcInserted m 1 (m.length - 4)) m.length = true := by
  have hfits : 1 + (m.length - 4) + 2 ≤ m.length := by omega
  have hlo : m.length - 3 = 1 + (m.length - 4) := by omega
  have hhi : m.length - 2 = 1 + (m.length - 4) + 1 := by omega
  rw [verifyMessage_iff, memRead_crcInserted, crcInserted_other m (by omega) (by omega),
    crcInserted_other m (by omega) (by omega), hlo, hhi]
  exact ⟨hlen, hstart, hend, crcInserted_lo hfits, crcInserted_hi hfits⟩

/-- Settles O8: CRC_INSERT writes the CRC of a range that it leaves as it is. -/
theorem crcInsertThenVerifySucceeds : Obligations.CrcInsertThenVerifySucceeds := by
  intro m s hlen hstart hend
  refine ⟨crcInserted m 1 (m.length - 4), exec_crcInsert_of_le (by omega) s, ?_⟩
  rw [exec_verifyMessage, verifyMessage_crcInserted hlen hstart hend]

/-! ### Changes that are detected (R172) -/

/-- A change of one byte that keeps a message verified is no change: outside the covered range the bytes compared with
are as before, and inside it the CRC field is. -/
theorem eq_of_verifyMessage_set {m : Bytes} {n i : Nat} {b x : Byte} (h : verifyMessage m n = true)
    (hx : verifyMessage (m.set i x) n = true) (hi : i < n) (hb : m[i]? = some b) : x = b := by
  obtain ⟨hn, hstart, hend, hlo, hhi⟩ := (verifyMessage_iff m n).1 h
  obtain ⟨-, hstart', hend', hlo', hhi'⟩ := (verifyMessage_iff (m.set i x) n).1 hx
  have hself : (m.set i x)[i]? = some x := List.getElem?_set_self (List.getElem?_eq_some_iff.1 hb).1
  have hsame {v : Byte} (hv : m[i]? = some v) (hv' : (m.set i x)[i]? = some v) : x = b :=
    Option.some.inj ((hself.symm.trans hv').trans (hv.symm.trans hb))
  by_cases hcovered : 1 ≤ i ∧ i < n - 3
  · obtain ⟨k, rfl⟩ := Nat.exists_eq_add_of_le hcovered.1
    rw [List.getElem?_set_ne (by omega), hlo, memRead_set_inside] at hlo'
    rw [List.getElem?_set_ne (by omega), hhi, memRead_set_inside] at hhi'
    refine eq_of_crcFrom_set (l := memRead m 1 (n - 4)) ?_
      (eq_of_lo8_of_hi8 (Option.some.inj hlo') (Option.some.inj hhi')).symm
    rw [getElem?_memRead (by omega), hb]
  · rw [memRead_set_outside x (by omega)] at hlo' hhi'
    obtain rfl | rfl | rfl | rfl : i = 0 ∨ i = n - 3 ∨ i = n - 2 ∨ i = n - 1 := by omega
    · exact hsame hstart hstart'
    · exact hsame hlo hlo'
    · exact hsame hhi hhi'
    · exact hsame hend hend'

theorem flip_ne (b : Byte) {j : Nat} (hj : j < 8) : b ^^^ (1#8 <<< j) ≠ b := by
  have hmask : ∀ j < 8, 1#8 <<< j ≠ 0#8 := by decide
  intro h
  exact hmask j hj ((BitVec.xor_right_inj b).1 (h.trans BitVec.xor_zero.symm))

/-- Settles O9: a flipped byte differs from the byte it was, and no other byte in its place verifies. -/
theorem singleBitFlipIsDetected : Obligations.SingleBitFlipIsDetected := by
  intro m n i j b h hi hj hb
  by_contra hflip
  exact flip_ne b hj (eq_of_verifyMessage_set h (Bool.of_not_eq_false hflip) hi hb)

/-! ### The parity code and the slot offsets (R168, R169) -/

/-- The parity code keeps the seven address bits. -/
theorem getLsbD_evenParityAddr_of_lt (a : BitVec 7) {i : Nat} (hi : i < 7) :
    (evenParityAddr a).getLsbD i = a.getLsbD i := by
  simp [evenParityAddr, hi, Nat.lt_succ_of_lt hi]

/-- Bit 7 of the parity code is the parity of the address bits. -/
theorem getLsbD_evenParityAddr_top (a : BitVec 7) :
    (evenParityAddr a).getLsbD 7 = decide (popcount a % 2 = 1) := by
  obtain h | h := Nat.mod_two_eq_zero_or_one (popcount a)
  · simp [evenParityAddr, h]
  · simp [evenParityAddr, h]

theorem popcount_byte (b : Byte) : popcount b = popcount (b.setWidth 7) + (b.getLsbD 7).toNat := by
  have hlow : (List.range 7).filter (b.setWidth 7).getLsbD = (List.range 7).filter b.getLsbD :=
    List.filter_congr fun i hi => by simp [List.mem_range.1 hi]
  rw [popcount, popcount, hlow, List.range_succ, List.filter_append, List.length_append, List.filter_singleton]
  cases b.getLsbD 7 <;> rfl

theorem setWidth_evenParityAddr (a : BitVec 7) : (evenParityAddr a).setWidth 7 = a :=
  BitVec.eq_of_getLsbD_eq fun i hi => by simp [hi, getLsbD_evenParityAddr_of_lt a hi]

/-- The parity bit makes the number of one bits even. -/
theorem parityOk_evenParityAddr (a : BitVec 7) : parityOk (evenParityAddr a) = true := by
  rw [parityOk, beq_iff_eq, popcount_byte, setWidth_evenParityAddr, getLsbD_evenParityAddr_top]
  obtain h | h := Nat.mod_two_eq_zero_or_one (popcount a)
  · simp [h]
  · simp [h, Nat.add_mod]

theorem parityOk_pollList : ∀ a ∈ pollList, parityOk a = true := by decide

theorem slotNumber_eq (d : Byte) : slotNumber d = (d.extractLsb' 0 4).toNat := by
  simp [slotNumber, BitVec.extractLsb'_toNat, Nat.and_two_pow_sub_one_eq_mod (n := 4)]

theorem exec_evenParityAddr (a : BitVec 7) (s : State) :
    exec (.evenParityAddr a) s = .next (returned (.byte (evenParityAddr a)) s) := rfl

theorem exec_parityOk (b : Byte) (s : State) : exec (.parityOk b) s = .next (returned (.bool (parityOk b)) s) := rfl

/-- The offset of the slot that the low nibble names, whatever the high nibble. -/
theorem exec_slotOffset {d : Byte} {slot : BitVec 4} (h : d.extractLsb' 0 4 = slot) (s : State) :
    exec (.slotOffset d) s = .next (returned (.index (23 + ((slot.toNat : Int) - 1) * 8).toNat) s) := by
  rw [← h, ← slotNumber_eq]
  rfl

/-- Settles O7: bit 7 of the parity code makes the popcount even, and the low nibble alone names the slot. -/
theorem parityCodeAndSlotOffsets : Obligations.ParityCodeAndSlotOffsets := by
  refine ⟨fun a s => ⟨evenParityAddr a, exec_evenParityAddr a s, setWidth_evenParityAddr a,
    getLsbD_evenParityAddr_top a, ?_⟩, fun b s => exec_parityOk b s, parityOk_pollList,
    fun d s => ⟨fun h => exec_slotOffset h s, fun h => exec_slotOffset h s, fun h => exec_slotOffset h s⟩⟩
  rw [exec_parityOk, parityOk_evenParityAddr]

end Sys2Proof.Machine
end

section
/-! PROOFS. The engine's rows (42_engine.md R214 to R243): each micro-step's equation, and what the row is there. -/

namespace Sys2Proof.Machine

open Sys2Proof.Claims

/-! ### A row at one of its micro-steps (42_engine.md R245) -/

section Rows

variable {l : Label} {s : State} (h : EngineAt l s)
include h

/-- The row writes `st` and runs the micro-step at which the engine stands. -/
theorem exec_stateRow_at {q : EngineState} (hl : l ∈ stateLabels q) :
    exec (stateRow q) s = microStep (jump l s) := by
  obtain ⟨hr, rfl⟩ := h
  exact exec_stateRow hr (.inr hl)

theorem exec_checkRemoteEnabled_at (hl : l ∈ stateLabels .checkRemoteEnabled := by decide) :
    exec .checkRemoteEnabled s = microStep (jump l s) := exec_stateRow_at h hl

theorem exec_dormant_at (hl : l ∈ stateLabels .dormant := by decide) :
    exec .dormant s = microStep (jump l s) := exec_stateRow_at h hl

theorem exec_waitForPoll_at (hl : l ∈ stateLabels .waitForPoll := by decide) :
    exec .waitForPoll s = microStep (jump l s) := exec_stateRow_at h hl

theorem exec_headerExchange_at (hl : l ∈ stateLabels .headerExchange := by decide) :
    exec .headerExchange s = microStep (jump l s) := exec_stateRow_at h hl

theorem exec_dataExchange_at (hl : l ∈ stateLabels .dataExchange := by decide) :
    exec .dataExchange s = microStep (jump l s) := exec_stateRow_at h hl

theorem exec_pollSiblings_at (hl : l ∈ stateLabels .pollSiblings := by decide) :
    exec .pollSiblings s = microStep (jump l s) := exec_stateRow_at h hl

end Rows

/-! ### Lookups that succeed -/

theorem withDev_of_some {s : State} {h : Nat} {d : RegisterSet} (hd : s.devs[h]? = some d) (k : RegisterSet → Out) :
    withDev s h k = k d := by
  simp [withDev, hd]

theorem withPollEntry_of_some {s : State} {a : Byte} (ha : pollList[s.pi]? = some a) (k : Byte → Out) :
    withPollEntry s k = k a := by
  simp [withPollEntry, ha]

/-- With one register set per poll address, `reg` finds it (10_state.md R43). -/
theorem reg_pollAddress {s : State} {h : Nat} {d : RegisterSet} (hkeys : (s.devs.map (·.pollAddress)).Nodup)
    (hd : s.devs[h]? = some d) : s.reg d.pollAddress = some h := by
  cases hr : s.reg d.pollAddress with
  | none => exact absurd rfl (reg_none.1 hr d (List.mem_of_getElem? hd))
  | some g =>
    obtain ⟨e, he, hpoll⟩ := reg_some hr
    have hlt : g < (s.devs.map (·.pollAddress)).length := by
      simpa using (List.getElem?_eq_some_iff.1 he).1
    have hgh : g = h := (List.getElem?_inj hlt hkeys).1 (by simp [hd, he, hpoll])
    rw [hgh]

/-! ### Receives and bursts in the statements' words -/

/-- What a receive returns (41_transport.md R193). -/
theorem mayReturn_received (n : Nat) (s : State) : MayReturn n (received n s) s := by
  refine ⟨received_length_le n s, fun a q hq => ?_⟩
  simp [received, nextAnswer, hq]

theorem receive_eq_afterRx (n : Nat) (t : Tier) (s : State) :
    receive n t s = afterRx n t (received n s) s := by
  cases hq : s.busIn with
  | nil => simp [receive, afterRx, nextAnswer, record, drawn, hq]
  | cons r q => simp [receive, afterRx, nextAnswer, record, hq]

section AckReceive

variable {e : AckLen} {s : State}

theorem expectAck_andThen_of_ack (h : received (ackBytes e).length s = ackBytes e) (k : State → State) :
    (expectAck e s).andThen k =
      .next (k (afterRx (ackBytes e).length .long (received (ackBytes e).length s) s)) := by
  rw [expectAck_eq, if_pos h, receive_eq_afterRx]
  rfl

theorem expectAck_andThen_of_other (h : received (ackBytes e).length s ≠ ackBytes e) (k : State → State) :
    (expectAck e s).andThen k =
      .next (aborting (afterRx (ackBytes e).length .long (received (ackBytes e).length s) s)) := by
  rw [expectAck_eq, if_neg h, receive_eq_afterRx]
  rfl

end AckReceive

theorem accepts_iff_isExpected (n : Nat) (header r : Bytes) :
    accepts n header r = true ↔ IsExpected r n header := by
  simp [accepts, IsExpected, verifyMessage_iff_isMessage, and_assoc]

theorem expectMsg_andThen_of_expected {n : Nat} {header : Bytes} {s : State}
    (h : IsExpected (received n s) n header) (k : State → State) :
    (expectMsg n header s).andThen k = .next (k (afterRx n .long (received n s) s)) := by
  rw [expectMsg_eq, if_pos ((accepts_iff_isExpected n header _).2 h), receive_eq_afterRx]
  rfl

theorem expectMsg_andThen_of_unexpected {n : Nat} {header : Bytes} {s : State}
    (h : ¬ IsExpected (received n s) n header) (k : State → State) :
    (expectMsg n header s).andThen k = .next (aborting (afterRx n .long (received n s) s)) := by
  rw [expectMsg_eq, if_neg (mt (accepts_iff_isExpected n header _).1 h), receive_eq_afterRx]
  rfl

/-- The sequencer passes a known micro-step (42_engine.md R245). -/
theorem advance_at {s : State} {l : Label} (hl : s.mpc = l) :
    advance s =
      { s with
        mpc := l.following
        st := l.following.entryState.getD s.st
        dxStep := l.opensStep.getD s.dxStep } := by
  subst hl
  rfl

/-- A burst from a micro-step that sends it passes the micro-step. -/
theorem sendFrame_at {labels : List Label} {s : State} {l : Label} (hr : s.phase = .run) (hl : s.mpc = l)
    (b : Bytes) (p : Parity) (hmem : l ∈ labels := by decide) :
    sendFrame labels b p s =
      { afterTx b p s with
        mpc := l.following
        st := l.following.entryState.getD s.st
        dxStep := l.opensStep.getD s.dxStep } :=
  (sendFrame_pass labels b p s (by simp [State.standsAt, hr, hl, hmem])).trans
    (advance_at (s := txBurst b p s) hl)

theorem isMessage_envelope (body : Bytes) : IsMessage (envelope body) (body.length + 4) :=
  (verifyMessage_iff_isMessage _ _).1 (verifyMessage_envelope body)

/-! ### Header exchange (R218 to R220) -/

/-- E20 (R218). -/
theorem microHdrAck_eq {s : State} {d : RegisterSet} (hr : s.phase = .run) (hl : s.mpc = .e20)
    (hd : s.devs[s.cur]? = some d) :
    microHdrAck s = .next { afterTx [0x06#8, d.pollAddress] .space s with mpc := .e21 } := by
  rw [microHdrAck, withDev_of_some hd, sendHdrAck, sendFrame_at hr hl]
  rfl

/-- E21 after its checks: the skip flag is bit 0 of byte 5 (R220). -/
theorem headerAccepted_eq {s : State} {d : RegisterSet} {f : Byte} (hl : s.mpc = .e21)
    (hd : s.devs[s.cur]? = some d) (hf : s.rxb[5]? = some f) :
    headerAccepted s =
      { s with
        devs := s.devs.set s.cur { d with skipThermostatsFlag := f.getLsbD 0 }
        st := .dataExchange
        mpc := .e22 } := by
  have hskip : headerSkip s.rxb = f.getLsbD 0 := by simp [headerSkip, hf]
  rw [headerAccepted, hskip, updateDev_eq _ _ _ d hd]
  exact advance_at (s := { s with devs := s.devs.set s.cur (withSkip (f.getLsbD 0) d) }) hl

/-- Settles O31: the burst passes E20; E21's checked receive decides between the skip flag's write and the abort. -/
theorem headerExchangeAcksAndLearnsSkipFlag : Obligations.HeaderExchangeAcksAndLearnsSkipFlag := by
  intro s d hd
  have e21 (h : EngineAt .e21 s) :
      exec .headerExchange s = (expectMsg 9 hdrReplyHeader (jump .e21 s)).andThen headerAccepted :=
    (exec_headerExchange_at h).trans (withDev_of_some hd _)
  refine ⟨fun h => (exec_headerExchange_at h).trans (microHdrAck_eq (s := jump .e20 s) h.1 rfl hd),
    fun h => ⟨received 9 (jump .e21 s), mayReturn_received 9 (jump .e21 s), fun hok => ?_, fun hbad => ?_⟩⟩
  · obtain ⟨f, hf⟩ : ∃ f, (received 9 (jump .e21 s))[5]? = some f :=
      ⟨_, List.getElem?_eq_getElem (Nat.lt_of_lt_of_le (by decide) hok.1)⟩
    refine ⟨f, hf, ?_⟩
    rw [e21 h, expectMsg_andThen_of_expected (header := hdrReplyHeader) hok,
      headerAccepted_eq (s := afterRx 9 .long (received 9 (jump .e21 s)) (jump .e21 s)) rfl hd hf]
    rfl
  · rw [e21 h, expectMsg_andThen_of_unexpected (header := hdrReplyHeader) hbad]
    rfl

/-! ### The configuration frame's patch (R232, R233) -/

theorem slotOffset_of_slotOk {a : Byte} (h : slotOk a = true) :
    slotOffset a = 23 + (slotNumber a - 1) * 8 ∧ slotOffset a ∈ [23, 31, 39] := by
  simp only [slotOk, Bool.or_eq_true, beq_iff_eq] at h
  obtain (h | h) | h := h
  · simp [slotOffset, h]
  · simp [slotOffset, h]
  · simp [slotOffset, h]

@[simp] theorem length_patchConfig (d : RegisterSet) (cfg : Bytes) : (patchConfig d cfg).length = cfg.length := by
  simp [patchConfig]

section Patch

variable {d : RegisterSet} {cfg : Bytes}

theorem getElem?_patchConfig_other {i : Nat} (hi : i ∉ [1, 5, 6, 10, 11]) (hslot : i < slotOffset d.deviceAddress ∨
    slotOffset d.deviceAddress + 2 < i) : (patchConfig d cfg)[i]? = cfg[i]? := by
  simp only [List.mem_cons, List.not_mem_nil, or_false, not_or] at hi
  simp (disch := omega) only [patchConfig, List.getElem?_set_ne]

theorem getElem?_patchConfig_fixed (hlen : cfg.length = 48) (hslot : 11 < slotOffset d.deviceAddress) :
    (patchConfig d cfg)[1]? = some d.deviceAddress ∧ (patchConfig d cfg)[5]? = some d.measTemp ∧
      (patchConfig d cfg)[6]? = some d.knobSetting ∧ (patchConfig d cfg)[10]? = some d.selector ∧
      (patchConfig d cfg)[11]? = some d.dipSwitch := by
  simp (disch := grind) only [patchConfig, List.getElem?_set_ne,
    List.getElem?_set_self, and_self]

theorem getElem?_patchConfig_slot (hlen : cfg.length = 48) (hslot : slotOffset d.deviceAddress + 2 < 48) :
    (patchConfig d cfg)[slotOffset d.deviceAddress]? = some d.comfortTemp ∧
      (patchConfig d cfg)[slotOffset d.deviceAddress + 1]? = some d.comfortTemp ∧
      (patchConfig d cfg)[slotOffset d.deviceAddress + 2]? = some d.reducedTemp := by
  refine ⟨?_, ?_, ?_⟩
  · rw [patchConfig, List.getElem?_set_ne (by omega), List.getElem?_set_ne (by omega),
      List.getElem?_set_self (by simp; omega)]
  · rw [patchConfig, List.getElem?_set_ne (by omega), List.getElem?_set_self (by simp; omega)]
  · rw [patchConfig, List.getElem?_set_self (by simp; omega)]

end Patch

/-- The configuration frame after X17. -/
def patchedFrame (d : RegisterSet) (cfg : Bytes) : Bytes := crcInserted (patchConfig d cfg) 1 44

theorem length_patchedFrame (d : RegisterSet) (cfg : Bytes) : (patchedFrame d cfg).length = cfg.length := by
  simp [patchedFrame]

/-- Only the CRC field differs from the patch. -/
theorem getElem?_patchedFrame {i : Nat} (d : RegisterSet) (cfg : Bytes) (hlo : i ≠ 45) (hhi : i ≠ 46) :
    (patchedFrame d cfg)[i]? = (patchConfig d cfg)[i]? :=
  crcInserted_other _ hlo hhi

theorem patchedFrame_crc {cfg : Bytes} (d : RegisterSet) (hlen : cfg.length = 48) :
    (patchedFrame d cfg)[45]? = some (lo8 (crc16k (memRead (patchedFrame d cfg) 1 44))) ∧
      (patchedFrame d cfg)[46]? = some (hi8 (crc16k (memRead (patchedFrame d cfg) 1 44))) := by
  have hfits : 1 + 44 + 2 ≤ (patchConfig d cfg).length := by simp [hlen]
  rw [patchedFrame, memRead_crcInserted]
  exact ⟨crcInserted_lo hfits, crcInserted_hi hfits⟩

/-- X17 (R232, R233). -/
theorem microPatch_eq {s : State} {d : RegisterSet} (hd : s.devs[s.hdl]? = some d) (hlen : s.cfg.length = 48)
    (hslot : slotOffset d.deviceAddress + 2 < 48) :
    microPatch s = .next (advance { s with cfg := patchedFrame d s.cfg }) := by
  rw [microPatch, withDev_of_some hd, if_neg (by omega), crcInsert_of_le (by simp [hlen])]
  rfl

/-- Settles O37: the frame is the patch with its CRC inserted, and the slot's triple ends before the CRC field. -/
theorem configPatchWritesRegisters : Obligations.ConfigPatchWritesRegisters := by
  intro s d h hd hok hlen
  obtain ⟨hoff, hslot⟩ := slotOffset_of_slotOk hok
  have hrange : 11 < slotOffset d.deviceAddress ∧ slotOffset d.deviceAddress + 2 < 45 := by
    simp only [List.mem_cons, List.not_mem_nil, or_false] at hslot
    omega
  obtain ⟨haddr, hmeas, hknob, hsel, hdip⟩ := getElem?_patchConfig_fixed hlen hrange.1
  obtain ⟨hcomfort, hcomfort', hreduced⟩ := getElem?_patchConfig_slot (d := d) hlen (by omega)
  obtain ⟨hlo, hhi⟩ := patchedFrame_crc d hlen
  have keep {i : Nat} (hi : i < 45) : (patchedFrame d s.cfg)[i]? = (patchConfig d s.cfg)[i]? :=
    getElem?_patchedFrame d s.cfg (by omega) (by omega)
  refine ⟨patchedFrame d s.cfg, slotOffset d.deviceAddress, ?_, hoff, (length_patchedFrame d s.cfg).trans hlen,
    (keep (by omega)).trans haddr, (keep (by omega)).trans hmeas, (keep (by omega)).trans hknob,
    (keep (by omega)).trans hsel, (keep (by omega)).trans hdip, (keep (by omega)).trans hcomfort,
    (keep (by omega)).trans hcomfort', (keep (by omega)).trans hreduced, hlo, hhi, fun i hi => ?_,
    fun hstart hend => ?_⟩
  · exact (exec_dataExchange_at h).trans (microPatch_eq (s := jump .x17 s) hd hlen (by omega))
  · simp only [List.mem_cons, List.not_mem_nil, or_false, not_or] at hi
    rw [getElem?_patchedFrame d s.cfg (by omega) (by omega),
      getElem?_patchConfig_other (by simp only [List.mem_cons, List.not_mem_nil, or_false, not_or]; omega) (by omega)]
  · have hplen : (patchConfig d s.cfg).length = 48 := (length_patchConfig d s.cfg).trans hlen
    have hv := verifyMessage_crcInserted (m := patchConfig d s.cfg) (by omega)
      ((getElem?_patchConfig_other (by decide) (by omega)).trans hstart)
      (by rw [hplen, getElem?_patchConfig_other (by decide) (by omega)]; exact hend)
    rwa [hplen] at hv

/-! ### Remote control disabled (R214, R215) -/

theorem microCheck_of_disabled {s : State} (h : s.flags.remoteControlEnabled = false) :
    microCheck s = jump .e04 { s with prev := none } := by
  simp [microCheck, h]

theorem microCheck_of_enabled {s : State} (h : s.flags.remoteControlEnabled = true) :
    microCheck s = jump .e05 s := by
  simp [microCheck, h]

/-- Settles O28: E03's two ways and E04's one. -/
theorem disabledRemoteIsDormant : Obligations.DisabledRemoteIsDormant := by
  intro s
  have e03 (h : EngineAt .e03 s) : exec .checkRemoteEnabled s = .next (microCheck (jump .e03 s)) :=
    exec_checkRemoteEnabled_at h
  refine ⟨fun h hoff => ?_, fun h hon => ?_, fun h => exec_dormant_at h⟩
  · rw [e03 h, microCheck_of_disabled (s := jump .e03 s) hoff]
    rfl
  · rw [e03 h, microCheck_of_enabled (s := jump .e03 s) hon]
    rfl

/-! ### Poll detection (R216) -/

/-- E05 (R216). -/
theorem microPollReceive_eq (s : State) :
    microPollReceive s = { afterRx 1 .short (received 1 s) s with mpc := .e06 } := by
  rw [microPollReceive, receive_eq_afterRx]
  rfl

theorem pollFilter_confirmed {s : State} {b : Byte} {rest : Bytes} {h : Nat} (hreg : s.reg b = some h)
    (hprev : s.prev = some b) : pollFilter (b :: rest) s = jump .e20 { s with prev := none, cur := h } := by
  simp [pollFilter, hreg, hprev]

theorem pollFilter_unconfirmed {s : State} {b : Byte} {rest : Bytes} (h : s.reg b = none ∨ s.prev ≠ some b) :
    pollFilter (b :: rest) s = jump .e01 { s with prev := some b } := by
  cases hreg : s.reg b with
  | none => simp [pollFilter, hreg]
  | some g =>
    have hprev : s.prev ≠ some b := h.resolve_left (by simp [hreg])
    simp [pollFilter, hreg, hprev]

/-- Settles O29: E05's receive, and the address filter's three ways at E06. -/
theorem pollConfirmedByTwoEqualBytes : Obligations.PollConfirmedByTwoEqualBytes := by
  intro s
  have e06 {r : Bytes} (h : EngineAt .e06 s) (hr : s.rxb = r) :
      exec .waitForPoll s = .next (pollFilter r (jump .e06 s)) := by
    subst hr
    exact exec_waitForPoll_at h
  refine ⟨fun h => ⟨received 1 (jump .e05 s), mayReturn_received 1 (jump .e05 s), ?_⟩, fun h hr => e06 h hr,
    fun b rest g d h hr hkeys hd hpoll hprev => ?_, fun b rest h hr hno => ?_⟩
  · exact (exec_waitForPoll_at h).trans (congrArg Host.Outcome.next (microPollReceive_eq (jump .e05 s)))
  · subst hpoll
    rw [e06 h hr, pollFilter_confirmed (s := jump .e06 s) (reg_pollAddress hkeys hd) hprev]
    rfl
  · rw [e06 h hr, pollFilter_unconfirmed (s := jump .e06 s) (hno.imp_left reg_none.2)]
    rfl

/-! ### The poll phase (R236 to R243) -/

theorem microPollNext_of_lt {s : State} (h : s.pi < 8) : microPollNext s = .next (advance { s with rep := 1 }) := by
  have ha : pollList[s.pi]? = some pollList[s.pi] := List.getElem?_eq_getElem h
  rw [microPollNext, if_neg (by omega), withPollEntry_of_some ha]

/-- Settles O40: E40 and E48 have one way each, E41 one below index 8 and one at it. -/
theorem pollPhaseStartsAfterOwnSlot : Obligations.PollPhaseStartsAfterOwnSlot := by
  intro s
  refine ⟨fun d h hd => ?_, fun h hpi => ?_, fun h hpi => ?_, fun h => exec_pollSiblings_at h⟩
  · exact (exec_pollSiblings_at h).trans (withDev_of_some (s := jump .e40 s) hd _)
  · exact (exec_pollSiblings_at h).trans (if_pos (c := (jump .e41 s).pi = 8) hpi)
  · exact (exec_pollSiblings_at h).trans (microPollNext_of_lt (s := jump .e41 s) hpi)

/-- E42 (R237). -/
theorem microPollSend_eq {s : State} {a : Byte} (hr : s.phase = .run) (hl : s.mpc = .e42)
    (ha : pollList[s.pi]? = some a) : microPollSend s = .next { afterTx [a] .mark s with mpc := .e43 } := by
  rw [microPollSend, withPollEntry_of_some ha, sendPoll, sendFrame_at hr hl]
  rfl

/-- E44 (R240). -/
theorem microListen_eq {s : State} (hl : s.mpc = .e44) :
    microListen s = { afterRx 2 .short (received 2 s) s with mpc := .e45 } := by
  rw [microListen, receive_eq_afterRx]
  exact advance_at (s := afterRx 2 .short (received 2 s) s) hl

theorem microListenCheck_of_ack {s : State} (h : s.rxb = ackBytes .two) : microListenCheck s = jump .e46 s :=
  if_pos ((verifyReply_iff _ _).2 h)

theorem microListenCheck_again {s : State} (h : s.rxb ≠ ackBytes .two) (hrep : s.rep < 5) :
    microListenCheck s = jump .e42 { s with rep := s.rep + 1 } := by
  rw [microListenCheck, if_neg (mt (verifyReply_iff _ _).1 h), if_pos (Nat.succ_le_of_lt hrep)]

theorem microListenCheck_last {s : State} (h : s.rxb ≠ ackBytes .two) (hrep : 5 ≤ s.rep) :
    microListenCheck s = jump .e41 { s with rep := s.rep + 1, pi := s.pi + 1 } := by
  rw [microListenCheck, if_neg (mt (verifyReply_iff _ _).1 h), if_neg (Nat.not_le_of_lt (Nat.lt_succ_of_le hrep))]

/-- Settles O41: the burst, the receive, and the listen check's three ways. -/
theorem pollPhaseSendsFiveTimes : Obligations.PollPhaseSendsFiveTimes := by
  intro s
  have e45 (h : EngineAt .e45 s) : exec .pollSiblings s = .next (microListenCheck (jump .e45 s)) :=
    exec_pollSiblings_at h
  refine ⟨fun a h ha => (exec_pollSiblings_at h).trans (microPollSend_eq (s := jump .e42 s) h.1 rfl ha),
    fun h => ⟨received 2 (jump .e44 s), mayReturn_received 2 (jump .e44 s), ?_⟩, fun h hack => ?_,
    fun h hother hrep => ?_, fun h hother hrep => ?_⟩
  · exact (exec_pollSiblings_at h).trans (congrArg Host.Outcome.next (microListen_eq (s := jump .e44 s) rfl))
  · rw [e45 h, microListenCheck_of_ack (s := jump .e45 s) hack]
    rfl
  · rw [e45 h, microListenCheck_again (s := jump .e45 s) hother hrep]
    rfl
  · rw [e45 h, microListenCheck_last (s := jump .e45 s) hother hrep]
    rfl

/-- The sibling condition (R238). -/
theorem siblingOf_eq_some_iff {a : Byte} {d : RegisterSet} {s : State} {g : Nat} :
    siblingOf a d s = some g ↔
      s.rep = 2 ∧ (s.params.skipGatesSiblingSim = true → d.skipThermostatsFlag = true) ∧ s.reg a = some g ∧
        g ≠ s.hdl := by
  unfold siblingOf
  split_ifs with hgate
  · cases s.reg a with
    | none => simp
    | some k => grind
  · simpa [and_assoc] using fun hrep hskip => absurd ⟨hrep, hskip⟩ hgate

section Sibling

variable {s : State} {a : Byte} {d : RegisterSet} (hl : s.mpc = .e43) (ha : pollList[s.pi]? = some a)
  (hd : s.devs[s.hdl]? = some d)
include ha hd

/-- E43 with a sibling to simulate (R239). -/
theorem microSibling_of_some {g : Nat} {e : RegisterSet} (he : s.devs[g]? = some e)
    (hg : siblingOf a d s = some g) :
    microSibling s =
      .next { s with
        devs := s.devs.set g { e with skipThermostatsFlag := false }
        outer := s.hdl
        nest := 1
        st := .dataExchange
        hdl := g
        mpc := .x01 } := by
  rw [microSibling, withPollEntry_of_some ha, withDev_of_some hd, hg]
  simp only [simulateSibling, updateDev_eq g _ s e he]
  rfl

include hl in
/-- E43 without one: the listen window follows (R240). -/
theorem microSibling_of_none (hg : siblingOf a d s = none) : microSibling s = .next { s with mpc := .e44 } := by
  rw [microSibling, withPollEntry_of_some ha, withDev_of_some hd, hg]
  exact congrArg Host.Outcome.next (advance_at hl)

end Sibling

/-- Settles O42: with one register set per poll address, `reg` finds the sibling or the own register set. -/
theorem secondSendSimulatesSibling : Obligations.SecondSendSimulatesSibling := by
  intro s a d h ha hd hkeys
  have listen (hg : ∀ g, siblingOf a d (jump .e43 s) ≠ some g) :
      exec .pollSiblings s = .next { s with mpc := .e44 } :=
    (exec_pollSiblings_at h).trans (microSibling_of_none rfl ha hd (Option.eq_none_iff_forall_ne_some.2 hg))
  refine ⟨fun g e he hpoll hg hrep => ?_, fun hno => listen fun g hg => ?_⟩
  · subst hpoll
    split_ifs with hgate
    · refine listen fun g hg => ?_
      obtain ⟨-, hskip, -⟩ := siblingOf_eq_some_iff.1 hg
      simp [hskip hgate.1] at hgate
    · have hskip : s.params.skipGatesSiblingSim = true → d.skipThermostatsFlag = true := by simpa using hgate
      exact (exec_pollSiblings_at h).trans (microSibling_of_some (s := jump .e43 s) ha hd he
        (siblingOf_eq_some_iff.2 ⟨hrep, hskip, reg_pollAddress hkeys he, hg⟩))
  · obtain ⟨hrep, -, hreg, hne⟩ := siblingOf_eq_some_iff.1 hg
    obtain hrep' | rfl | hnone := hno
    · exact hrep' hrep
    · exact hne (Option.some.inj (hreg.symm.trans (reg_pollAddress hkeys hd)))
    · exact Option.some_ne_none g (hreg.symm.trans (reg_none.2 hnone))

@[simp] theorem length_pollReplyBody (a : Byte) (skip : Bool) : (Config.pollReplyBody a skip).length = 5 := by
  simp [Config.pollReplyBody]

/-- E46 (R241); what `TXB` holds afterwards is the poll phase's own (10_state.md R54). -/
theorem microPollReply_eq {s : State} {d : RegisterSet} (hr : s.phase = .run) (hl : s.mpc = .e46)
    (hd : s.devs[s.hdl]? = some d) :
    ∃ held, microPollReply s =
      .next { afterTx (pollReplyBytes (Config.pollReplyBody d.deviceAddress d.skipThermostatsFlag)) .space
        (afterBuild held s) with mpc := .e47 } := by
  refine ⟨(buildFrame (pollReplyBytes (Config.pollReplyBody d.deviceAddress d.skipThermostatsFlag)) s).txb, ?_⟩
  rw [microPollReply, withDev_of_some hd, sendPollReply, sendMessage_eq,
    sendFrame_at (s := buildFrame _ s) hr hl]
  rfl

/-- Settles O43: the message sent is the envelope of the open body; E47's checked receive decides. -/
theorem pollReplyThenFinalAck : Obligations.PollReplyThenFinalAck := by
  intro s
  have e47 (h : EngineAt .e47 s) : exec .pollSiblings s = (expectAck .one (jump .e47 s)).andThen (jump .e01) :=
    exec_pollSiblings_at h
  refine ⟨fun d h hd => ?_, fun h => ⟨received 1 (jump .e47 s), mayReturn_received 1 (jump .e47 s), fun hok => ?_,
    fun hbad => ?_⟩⟩
  · have hbody := length_pollReplyBody d.deviceAddress d.skipThermostatsFlag
    obtain ⟨held, hx⟩ := microPollReply_eq (s := jump .e46 s) h.1 rfl hd
    refine ⟨pollReplyBytes (Config.pollReplyBody d.deviceAddress d.skipThermostatsFlag), held, ?_, ?_, ?_,
      (exec_pollSiblings_at h).trans hx⟩
    · rw [pollReplyBytes, show 9 = 5 + 4 from rfl, ← hbody]
      exact isMessage_envelope _
    · rw [pollReplyBytes, length_envelope, hbody]
    · have hcovered := memRead_envelope (Config.pollReplyBody d.deviceAddress d.skipThermostatsFlag)
      rwa [hbody] at hcovered
  · rw [e47 h, expectAck_andThen_of_ack (e := .one) hok]
    rfl
  · rw [e47 h, expectAck_andThen_of_other (e := .one) hbad]
    rfl

end Sys2Proof.Machine
end

section
/-! PROOFS. The writers of the previous poll byte (42_engine.md R217). -/

namespace Sys2Proof.Machine

open Sys2Proof.Claims

/-! ### What the host commands do to `prev` -/

/-- A host command leaves `prev`, the phase and the position as they are, or is START, which clears `prev`. -/
theorem exec_host_prev {w : HostWord} {i : Instr} {s t : State} (hw : decodeHost w = .ok i)
    (h : exec i s = .next t) :
    (t.prev = s.prev ∧ t.phase = s.phase ∧ t.mpc = s.mpc) ∨ (s.phase = .setup ∧ t.phase = .run ∧ t.prev = none) := by
  obtain ⟨d, p, r, rfl⟩ | rfl | ⟨a, v, rfl⟩ | rfl := decodeHost_cases hw
  · change execAddInstance d p r s = .next t at h
    unfold execAddInstance at h
    split at h <;> cases h
    exact .inl ⟨rfl, rfl, rfl⟩
  · change execStart s = .next t at h
    unfold execStart at h
    split_ifs at h with hp
    cases h
    exact .inr ⟨not_not.1 hp, rfl, rfl⟩
  · change execSendSettings a v s = .next t at h
    unfold execSendSettings at h
    split_ifs at h
    cases h
    exact .inl ⟨rfl, rfl, rfl⟩
  · cases h
    exact .inl ⟨rfl, rfl, rfl⟩

/-! ### What the micro-steps do to `prev` -/

/-- The complete list of R217: what the micro-step from `s` to `t` does to `prev`, and whether it begins an exchange. -/
inductive PrevWrite (s t : State) : Prop
  /-- Every other micro-step, which begins no exchange. -/
  | kept (same : t.prev = s.prev) (begins : s.mpc.idle = true → t.mpc.idle = true)
  /-- E03 while remote control is disabled (R214). -/
  | disabled (label : s.mpc = .e03) (off : s.flags.remoteControlEnabled = false) (cleared : t.prev = none)
  /-- E06 after an empty receive, where the parameter says so (R216). -/
  | timeout (label : s.mpc = .e06) (empty : s.rxb = []) (clears : s.params.prevClearedOnTimeout = true)
      (cleared : t.prev = none)
  /-- E06 on the poll that it confirms, which begins the exchange (R216). -/
  | confirmed {b : Byte} (label : s.mpc = .e06) (byte : s.rxb.head? = some b) (twice : s.prev = some b)
      (key : (s.reg b).isSome = true) (begins : t.mpc = .e20) (cleared : t.prev = none)
  /-- E06 on any other byte (R216). -/
  | unconfirmed {b : Byte} (label : s.mpc = .e06) (byte : s.rxb.head? = some b) (no : s.prev ≠ some b ∨ s.reg b = none)
      (ends : t.mpc = .e01) (written : t.prev = some b)

/-- E03. -/
theorem microCheck_prevWrite {s : State} (hl : s.mpc = .e03) : PrevWrite s (microCheck s) := by
  cases hon : s.flags.remoteControlEnabled with
  | true =>
    rw [microCheck_of_enabled hon]
    exact .kept rfl fun _ => rfl
  | false =>
    rw [microCheck_of_disabled hon]
    exact .disabled hl hon rfl

/-- E06. -/
theorem microPollFilter_prevWrite {s : State} (hl : s.mpc = .e06) : PrevWrite s (microPollFilter s) := by
  unfold microPollFilter
  cases hr : s.rxb with
  | nil =>
    cases hp : s.params.prevClearedOnTimeout with
    | true => exact .timeout hl hr hp (by simp [pollFilter, hp])
    | false => exact .kept (by simp [pollFilter, hp]) fun _ => rfl
  | cons b rest =>
    have hb : s.rxb.head? = some b := by rw [hr]; rfl
    by_cases hno : s.reg b = none ∨ s.prev ≠ some b
    · rw [pollFilter_unconfirmed hno]
      exact .unconfirmed hl hb hno.symm rfl rfl
    · simp only [not_or, not_not] at hno
      obtain ⟨hkey, hprev⟩ := hno
      obtain ⟨g, hreg⟩ := Option.ne_none_iff_exists'.1 hkey
      rw [pollFilter_confirmed hreg hprev]
      exact .confirmed hl hb hprev (by simp [hreg]) rfl rfl

/-- E02 goes on with the next handle or to E03. -/
theorem microDrain_prevWrite {s : State} (hl : s.mpc = .e02) : Ensures (microDrain s) (PrevWrite s) := by
  unfold microDrain
  split
  · exact ensures_next.2 (.kept rfl fun _ => rfl)
  · next h rest _ =>
    refine ensures_withDev fun d _ => ?_
    split
    · next v _ =>
      have hone : (drainOne h v { s with pend := rest }).prev = s.prev ∧
          (drainOne h v { s with pend := rest }).mpc = .e02 := by
        cases v with
        | none => exact ⟨rfl, hl⟩
        | some w => exact ⟨rfl, hl⟩
      refine ensures_next.2 (.kept ?_ fun _ => ?_)
      · unfold drainStep; split_ifs <;> simp [hone]
      · unfold drainStep; split_ifs <;> simp [hone, Label.idle]
    · exact ensures_fault _ _

theorem microPatch_prev (s : State) : Ensures (microPatch s) fun t => t.prev = s.prev := by
  refine ensures_withDev fun d _ => ?_
  split_ifs
  · exact ensures_fault _ _
  · split
    · exact ensures_next.2 rfl
    · exact ensures_fault _ _

theorem microTakeStatus_prev (s : State) : Ensures (microTakeStatus s) fun t => t.prev = s.prev := by
  refine ensures_withDev fun d _ => ?_
  split_ifs
  · exact ensures_fault _ _
  · exact ensures_next.2 rfl

theorem microPollNext_prev (s : State) : Ensures (microPollNext s) fun t => t.prev = s.prev := by
  unfold microPollNext
  split_ifs
  · exact ensures_next.2 rfl
  · exact ensures_withPollEntry fun _ _ => ensures_next.2 rfl

theorem microSibling_prev (s : State) : Ensures (microSibling s) fun t => t.prev = s.prev := by
  refine ensures_withPollEntry fun a _ => ensures_withDev fun d _ => ?_
  split
  · exact ensures_next.2 rfl
  · exact ensures_next.2 rfl

theorem microListenCheck_prev (s : State) : (microListenCheck s).prev = s.prev := by
  unfold microListenCheck
  split_ifs <;> rfl

/-- A checked acknowledgement receive and what follows it, where that leaves `prev`. -/
theorem expectAck_prev {e : AckLen} {s : State} {k : State → State} (hk : ∀ u, (k u).prev = u.prev) :
    Ensures ((expectAck e s).andThen k) fun t => t.prev = s.prev :=
  ensures_expectAck (fun _ => by rw [hk, receive_prev]) (by simp)

/-- A checked message receive and what follows it, where that leaves `prev`. -/
theorem expectMsg_prev {n : Nat} {header : Bytes} {s : State} {k : State → State} (hk : ∀ u, (k u).prev = u.prev) :
    Ensures ((expectMsg n header s).andThen k) fun t => t.prev = s.prev :=
  ensures_expectMsg (fun _ => by rw [hk, receive_prev]) (by simp)

/-- No byte received in an exchange or in the poll phase writes `prev` (R217). -/
theorem microStep_prev_of_exchange {s : State} (hl : s.mpc.idle = false) :
    Ensures (microStep s) fun t => t.prev = s.prev := by
  unfold microStep
  cases h : s.mpc with
  | e01 | e02 | e03 | e04 | e05 | e06 => simp [h, Label.idle] at hl
  | e22 | e48 | e99 => exact ensures_next.2 rfl
  | e20 => exact ensures_withDev fun _ _ => ensures_next.2 (sendFrame_prev _ _ _ _)
  | e40 => exact ensures_withDev fun _ _ => ensures_next.2 rfl
  | e41 => exact microPollNext_prev s
  | e42 => exact ensures_withPollEntry fun _ _ => ensures_next.2 (sendFrame_prev _ _ _ _)
  | e43 => exact microSibling_prev s
  | e44 => exact ensures_next.2 (receive_prev 2 .short s)
  | e45 => exact ensures_next.2 (microListenCheck_prev s)
  | e46 | x04 | x11 => exact ensures_withDev fun _ _ => ensures_next.2 (sendFrame_prev _ _ _ (buildFrame _ s))
  | e47 | x03 | x05 | x10 | x12 | x16 | x19 => exact expectAck_prev fun _ => rfl
  | e21 => exact ensures_withDev fun _ _ => expectMsg_prev fun _ => rfl
  | x06 | x13 => exact expectMsg_prev fun _ => rfl
  | x01 | x02 | x08 | x09 | x14 | x15 | x18 => exact ensures_next.2 (sendFrame_prev _ _ _ _)
  | x07 => exact microTakeStatus_prev s
  | x17 => exact microPatch_prev s

/-- The list of R217 is complete for the engine's program. -/
theorem microStep_prevWrite (s : State) : Ensures (microStep s) (PrevWrite s) := by
  cases hidle : s.mpc.idle with
  | false => exact (microStep_prev_of_exchange hidle).mono fun t ht => .kept ht fun h => by simp [hidle] at h
  | true =>
    unfold microStep
    cases h : s.mpc with
    | e01 => exact ensures_next.2 (.kept rfl fun _ => by simp [microDrainBegin, h, Label.following, Label.idle])
    | e02 => exact microDrain_prevWrite h
    | e03 => exact ensures_next.2 (microCheck_prevWrite h)
    | e04 => exact ensures_next.2 (.kept rfl fun _ => rfl)
    | e05 => exact ensures_next.2 (.kept (receive_prev 1 .short s) fun _ => rfl)
    | e06 => exact ensures_next.2 (microPollFilter_prevWrite h)
    | _ => simp [h, Label.idle] at hidle

/-! ### What a step does to `prev` -/

/-- A step leaves `prev`, the phase and the position as they are, is START, or makes one write of the complete list. -/
theorem step_prev {s t : State} (hi : s.Inv) (h : step s = .next t) :
    (t.prev = s.prev ∧ t.phase = s.phase ∧ t.mpc = s.mpc) ∨ (s.phase = .setup ∧ t.phase = .run ∧ t.prev = none) ∨
      s.turn = .engine ∧ s.phase = .run ∧ ∃ u, PrevWrite s u ∧ t = nextTurn u := by
  cases ht : s.turn with
  | host =>
    obtain ⟨q, k, rfl | ⟨w, i, v, hw, hv, rfl⟩⟩ := step_host_cases ht h
    · exact .inl ⟨rfl, rfl, rfl⟩
    · exact (exec_host_prev hw hv).imp_right .inl
  | engine =>
    obtain ⟨-, rfl⟩ | ⟨hr, u, hu, rfl⟩ := step_engine_cases hi ht h
    · exact .inl ⟨rfl, rfl, rfl⟩
    · exact .inr (.inr ⟨rfl, hr, u, microStep_prevWrite s u hu, rfl⟩)

/-- Settles O50: the list of R217 is complete, and a step that begins an exchange or goes on with one leaves `prev` NONE
as it finds it or makes it. -/
theorem prevWriters : Obligations.PrevWriters := by
  intro s t hi h
  obtain ⟨hsame, hphase, hmpc⟩ | ⟨hsetup, hrun, hnone⟩ | ⟨hturn, hr, u, hw, rfl⟩ := step_prev hi h
  · refine ⟨fun hne => absurd hsame hne, fun hrun hmid => ?_⟩
    rw [hphase] at hrun
    rw [hmpc] at hmid
    exact hsame.trans ((hi.position hrun).prev hmid)
  · exact ⟨fun _ => .inl ⟨hsetup, hrun, hnone⟩, fun _ _ => hnone⟩
  · cases hw with
    | kept hsame hbegins =>
      refine ⟨fun hne => absurd hsame hne, fun _ hmid => hsame.trans ((hi.position hr).prev ?_)⟩
      exact Bool.eq_false_iff.2 fun hidle => Bool.eq_false_iff.1 hmid (hbegins hidle)
    | disabled hl hoff hnone => exact ⟨fun _ => .inr (.inl ⟨hturn, ⟨hr, hl⟩, hoff, hnone⟩), fun _ _ => hnone⟩
    | timeout hl hempty hp hnone =>
      exact ⟨fun _ => .inr (.inr ⟨hturn, ⟨hr, hl⟩, .inl ⟨hempty, hp, hnone⟩⟩), fun _ _ => hnone⟩
    | @confirmed b hl hb htwice hkey hbegins hnone =>
      exact ⟨fun _ => .inr (.inr ⟨hturn, ⟨hr, hl⟩, .inr (.inl ⟨b, hb, htwice, hkey, hbegins, hnone⟩)⟩),
        fun _ _ => hnone⟩
    | @unconfirmed b hl hb hno hends hsome =>
      refine ⟨fun _ => .inr (.inr ⟨hturn, ⟨hr, hl⟩, .inr (.inr ⟨b, hb, hno, hends, hsome⟩)⟩), fun _ hmid => ?_⟩
      rw [nextTurn_mpc, hends] at hmid
      cases hmid

end Sys2Proof.Machine
end

section
/-! PROOFS. The host commands and the mailboxes (43_registry_mailboxes.md R280 to R292), instruction by instruction. -/

namespace Sys2Proof.Machine

open Sys2Proof.Claims

/-- The model's response to a host command is the one that the statements write out (30_encoding.md R126). -/
theorem respond_eq_responded (r : HostResponse) (s : State) : respond r s = responded r s := rfl

/-! ### ADD_INSTANCE (R280, R281) -/

theorem exec_addInstance (dev poll reg : Byte) (s : State) :
    exec (.addInstance dev poll reg) s = execAddInstance dev poll reg s := rfl

/-- The slots by the low nibble (10_state.md R33). -/
theorem slotOk_iff (d : Byte) : slotOk d = true ↔ d &&& 0x0F#8 ∈ [0x01#8, 0x02#8, 0x03#8] := by
  simp [slotOk, slotNumber, BitVec.toNat_eq, or_assoc]

theorem reg_isSome_iff (s : State) (a : Byte) : (s.reg a).isSome = true ↔ ∃ d ∈ s.devs, d.pollAddress = a := by
  rw [Option.isSome_iff_ne_none, ne_eq, reg_none]
  simp

/-- The five cases of R281 with the refusal of each. -/
def Refuses (dev poll : Byte) (s : State) (r : Refusal) : Prop :=
  (r = .addAfterStart ∧ s.phase ≠ .setup) ∨ (r = .registryFull ∧ s.devs.length = Config.nDevMax) ∨
    (r = .badSlot ∧ dev &&& 0x0F#8 ∉ [0x01#8, 0x02#8, 0x03#8]) ∨ (r = .pollParity ∧ parityOk poll = false) ∨
    (r = .duplicatePoll ∧ ∃ d ∈ s.devs, d.pollAddress = poll)

/-- The refusal that the checks answer names a case that holds. -/
theorem refuses_of_registrationRefusal {dev poll : Byte} {s : State} {r : Refusal}
    (h : registrationRefusal dev poll s = some r) : Refuses dev poll s r := by
  unfold registrationRefusal at h
  split_ifs at h with hphase hfull hslot hparity hkey <;> cases h
  · exact .inl ⟨rfl, hphase⟩
  · exact .inr (.inl ⟨rfl, hfull⟩)
  · exact .inr (.inr (.inl ⟨rfl, fun hin => by simp [(slotOk_iff dev).2 hin] at hslot⟩))
  · exact .inr (.inr (.inr (.inl ⟨rfl, by simpa using hparity⟩)))
  · exact .inr (.inr (.inr (.inr ⟨rfl, (reg_isSome_iff s poll).1 hkey⟩)))

/-- The checks let a registration pass exactly where all five admissions of R281 hold. -/
theorem registrationRefusal_eq_none_iff (dev poll : Byte) (s : State) :
    registrationRefusal dev poll s = none ↔
      s.phase = .setup ∧ s.count ≠ Config.nDevMax ∧ slotOk dev = true ∧ parityOk poll = true ∧
        ∀ d ∈ s.devs, d.pollAddress ≠ poll := by
  rw [← reg_none]
  constructor
  · intro h
    unfold registrationRefusal at h
    split_ifs at h with hphase hfull hslot hparity hkey
    exact ⟨not_not.1 hphase, hfull, by simpa using hslot, by simpa using hparity, by simpa using hkey⟩
  · rintro ⟨hphase, hfull, hslot, hparity, hkey⟩
    simp [registrationRefusal, hphase, hfull, hslot, hparity, hkey]

theorem exec_addInstance_refused_iff (dev poll reg : Byte) (s : State) (r : Refusal) :
    exec (.addInstance dev poll reg) s = .refused r ↔ registrationRefusal dev poll s = some r := by
  rw [exec_addInstance, execAddInstance]
  cases registrationRefusal dev poll s <;> simp

/-- Settles O18: the registration checks pass exactly where none of the five cases holds, and the refusal of each names
its case. -/
theorem addInstanceRefusals : Obligations.AddInstanceRefusals := by
  intro dev poll reg s
  simp only [exec_addInstance_refused_iff]
  refine ⟨?_, fun r => refuses_of_registrationRefusal⟩
  rw [← Option.ne_none_iff_exists', ne_eq, registrationRefusal_eq_none_iff, slotOk_iff]
  simp only [not_and_or, not_not, not_forall, Bool.not_eq_true, State.count, exists_prop]

/-- An admitted registration. -/
theorem exec_addInstance_admitted {dev poll : Byte} {s : State} (h : registrationRefusal dev poll s = none)
    (reg : Byte) :
    exec (.addInstance dev poll reg) s =
      .next (responded (.handle (BitVec.ofNat 8 s.count))
        (register (newRegisterSet dev poll reg s.draws) s)) := by
  rw [exec_addInstance, execAddInstance, h, respond_eq_responded]

/-- R36: a selector is one of three raw bytes. -/
theorem selectorByte_cases (m : Selector) :
    selectorByte m = 0x00#8 ∨ selectorByte m = 0x03#8 ∨ selectorByte m = 0x04#8 := by
  cases m <;> decide

theorem dipByte_cases (ign : Bool) : dipByte ign = 0x80#8 ∨ dipByte ign = 0x81#8 := by
  cases ign <;> decide

/-- The key of a register set appended under a new poll address is the next handle. -/
theorem reg_append_new {s t : State} {d : RegisterSet} (hdevs : t.devs = s.devs ++ [d])
    (hnew : ∀ e ∈ s.devs, e.pollAddress ≠ d.pollAddress) : t.reg d.pollAddress = some s.count := by
  have hnone : s.devs.findIdx? (fun e => e.pollAddress == d.pollAddress) = none := reg_none.2 hnew
  simp [State.reg, State.count, hdevs, List.findIdx?_append, hnone]

/-- Settles O17: the checks pass, and the new register set's drawn fields are in their ranges. -/
theorem addInstanceAppendsRegisterSet : Obligations.AddInstanceAppendsRegisterSet := by
  intro dev poll reg s hphase hroom hslot hparity hnew
  have hpass := (registrationRefusal_eq_none_iff dev poll s).2 ⟨hphase, hroom.ne, hslot, hparity, hnew⟩
  have hexec := exec_addInstance_admitted hpass reg
  refine ⟨newRegisterSet dev poll reg s.draws, rfl, rfl, rfl, selectorByte_cases _, dipByte_cases _, hexec,
    fun t ht => ?_⟩
  cases hexec.symm.trans ht
  exact reg_append_new (d := newRegisterSet dev poll reg s.draws) rfl hnew

/-! ### START (R282) -/

theorem exec_start (s : State) : exec .start s = execStart s := rfl

/-- Settles O19: the two checks of START, and the state in which it leaves the controller. -/
theorem startEntersRunPhase : Obligations.StartEntersRunPhase := by
  intro s
  rw [exec_start, execStart]
  refine ⟨fun hsetup hdevs => ?_, fun hrun => ?_, fun hsetup hdevs => ?_⟩
  · have hcount : s.count ≠ 0 := by simpa [State.count] using hdevs
    refine ⟨(enterRun s).flags, ?_⟩
    simp only [hsetup, hcount, ne_eq, not_true_eq_false, if_false]
    rfl
  · simp [hrun]
  · simp [hsetup, State.count, hdevs]

/-! ### SEND_SETTINGS (R287) -/

theorem sendSettingsTo_of_empty {s : State} {h : Nat} (hs : s.sm[h]? = some none) (v : Settings) :
    sendSettingsTo h v s = { s with sm := s.sm.set h (some v) } := by
  simp [sendSettingsTo, List.modify_eq_set_getElem?, hs]

theorem sendSettingsTo_of_full {s : State} {h : Nat} {w : Settings} (hs : s.sm[h]? = some (some w)) (v : Settings) :
    sendSettingsTo h v s = s := by
  obtain ⟨hlt, hget⟩ := List.getElem?_eq_some_iff.1 hs
  have hset : s.sm.set h (some w) = s.sm := hget ▸ List.set_getElem_self hlt
  simp [sendSettingsTo, List.modify_eq_set_getElem?, hs, hset]

/-- A legal word for a handle that exists is tried on its mailbox. -/
theorem exec_sendSettings_legal {h : Byte} {v : Settings} {s : State} {slot : Option Settings}
    (hh : h.toNat < s.count) (hv : settingsOk v = true) (hs : s.sm[h.toNat]? = some slot) :
    exec (.sendSettings h v) s = .next (responded .nothing (sendSettingsTo h.toNat v s)) := by
  obtain ⟨hlt, -⟩ := List.getElem?_eq_some_iff.1 hs
  simp [exec_sendSettings, execSendSettings, hh.not_ge, hv, hlt.not_ge, respond_eq_responded]

/-- Settles O20: the checks of SEND_SETTINGS in their order, and then the try-send on the mailbox. -/
theorem sendSettingsStoresOrDrops : Obligations.SendSettingsStoresOrDrops := by
  intro h v s
  refine ⟨fun hh hv hs => ?_, fun w hh hv hs => ?_, fun hh => ?_, fun hh hv => ?_⟩
  · rw [exec_sendSettings_legal hh hv hs, sendSettingsTo_of_empty hs]
  · rw [exec_sendSettings_legal hh hv hs, sendSettingsTo_of_full hs]
  · rw [exec_sendSettings, execSendSettings, if_pos hh]
  · simp [exec_sendSettings, execSendSettings, hh.not_ge, hv]

/-! ### RECEIVE_READINGS and PUBLISH_READINGS (R291, R292) -/

theorem exec_receiveReadings (s : State) :
    exec .receiveReadings s = .next (responded (.readings (readingsResponse s.rm)) { s with rm := none }) := rfl

/-- With nothing pending the response is "no value", and no mailbox changes. -/
theorem exec_receiveReadings_empty {s : State} (h : s.rm = none) :
    exec .receiveReadings s = .next (responded (.readings 0#33) s) := by
  have hself : { s with rm := none } = s := by rw [← h]
  rw [exec_receiveReadings, hself, h, readingsResponse]

/-- Settles O21: RECEIVE_READINGS answers with what the mailbox holds and leaves it empty. -/
theorem receiveReadingsTakesOnce : Obligations.ReceiveReadingsTakesOnce := by
  intro s
  refine ⟨fun r hr => ?_, exec_receiveReadings_empty, fun t ht => ?_⟩
  · rw [exec_receiveReadings, hr, readingsResponse]
  · cases ht
    exact exec_receiveReadings_empty rfl

theorem exec_publishReadings (r : Readings) (s : State) : exec (.publishReadings r) s = .next (publish r s) := rfl

/-- Settles O15: a publication keeps what the readings mailbox holds. -/
theorem publishKeepsOlderReadings : Obligations.PublishKeepsOlderReadings := by
  intro r s
  rw [exec_publishReadings, publish_eq]
  refine ⟨fun hempty => ?_, fun w hfull => ?_⟩
  · rw [hempty]
    rfl
  · rw [hfull]
    rfl

end Sys2Proof.Machine
end

section
/-! PROOFS. The registry after START (43_registry_mailboxes.md R283, 10_state.md R52): its keys and its size. -/

namespace Sys2Proof.Machine

/-! ### The fixed addresses of a register set (10_state.md R33 to R35) -/

/-- The fields of a register set that nothing writes after its registration. -/
def RegisterSet.addresses (d : RegisterSet) : Byte × Byte × Byte :=
  (d.deviceAddress, d.pollAddress, d.regulatorAddress)

theorem count_of_addresses {s t : State}
    (h : t.devs.map RegisterSet.addresses = s.devs.map RegisterSet.addresses) : t.count = s.count := by
  simpa [State.count] using congrArg List.length h

/-- `reg` looks at the addresses only. -/
theorem reg_eq_findIdx_addresses (s : State) (a : Byte) :
    s.reg a = (s.devs.map RegisterSet.addresses).findIdx? fun x => x.2.1 == a := by
  rw [List.findIdx?_map]
  rfl

theorem reg_of_addresses {s t : State}
    (h : t.devs.map RegisterSet.addresses = s.devs.map RegisterSet.addresses) (a : Byte) : t.reg a = s.reg a := by
  rw [reg_eq_findIdx_addresses, h, ← reg_eq_findIdx_addresses]

theorem map_addresses_modify {f : RegisterSet → RegisterSet} (hf : ∀ d, (f d).addresses = d.addresses) (h : Nat)
    (ds : List RegisterSet) : (ds.modify h f).map RegisterSet.addresses = ds.map RegisterSet.addresses := by
  refine List.ext_getElem? fun i => ?_
  rw [List.getElem?_map, List.getElem?_map, List.getElem?_modify]
  by_cases hi : h = i
  · cases ds[i]? <;> simp [hi, hf]
  · simp [hi]

/-- None of the writes of R41 is to an address. -/
theorem RegisterWrite.addresses {s : State} {r : Bytes} {h : Nat} {f : RegisterSet → RegisterSet}
    (hw : RegisterWrite s r h f) (d : RegisterSet) : (f d).addresses = d.addresses := by
  cases hw with
  | drain | status | header | sibling => rfl

/-- A micro-step writes no address. -/
theorem microStep_addresses (s : State) :
    Ensures (microStep s) fun t => t.devs.map RegisterSet.addresses = s.devs.map RegisterSet.addresses := by
  refine (microStep_devsWritten s).mono fun t ht => ?_
  obtain hsame | ⟨h, f, hw, hmod⟩ := ht
  · rw [hsame]
  · rw [hmod, map_addresses_modify hw.addresses]

/-! ### What the micro-steps that branch come to -/

/-- E02 ends the drain or visits one handle (42_engine.md R212). -/
theorem ensures_microDrain {s : State} {P : State → Prop} (hend : s.pend = [] → P (jump .e03 s))
    (hvisit : ∀ h rest v, s.pend = h :: rest → s.sm[h]? = some v → P (drainStep h rest v s)) :
    Ensures (microDrain s) P := by
  unfold microDrain
  split
  · exact ensures_next.2 (hend ‹_›)
  · next h rest hp =>
    refine ensures_withDev fun d _ => ?_
    split
    · next v hv => exact ensures_next.2 (hvisit h rest v hp hv)
    · exact ensures_fault _ _

/-- X07 takes the status reply (42_engine.md R227). -/
theorem ensures_microTakeStatus {s : State} {P : State → Prop} (h : 20 < s.rxb.length → P (takeStatus s)) :
    Ensures (microTakeStatus s) P := by
  refine ensures_withDev fun d _ => ?_
  split_ifs with hlen
  · exact ensures_fault _ _
  · exact ensures_next.2 (h (Nat.lt_of_not_le hlen))

/-- X17 patches the configuration frame and goes on (42_engine.md R232, R233). -/
theorem ensures_microPatch {s : State} {P : State → Prop}
    (h : ∀ d frame, s.devs[s.hdl]? = some d → crcInsert (patchConfig d s.cfg) 1 44 = some frame →
      P (advance { s with cfg := frame })) : Ensures (microPatch s) P := by
  refine ensures_withDev fun d hd => ?_
  split
  · exact ensures_fault _ _
  · split
    · next frame hframe => exact ensures_next.2 (h d frame hd hframe)
    · exact ensures_fault _ _

/-- E41 ends the poll phase or polls the next address (42_engine.md R237, R242). -/
theorem ensures_microPollNext {s : State} {P : State → Prop} (hend : s.pi = 8 → P (jump .e01 s))
    (hpoll : s.pi ≠ 8 → P (advance { s with rep := 1 })) : Ensures (microPollNext s) P := by
  unfold microPollNext
  split_ifs with hpi
  · exact ensures_next.2 (hend hpi)
  · exact ensures_withPollEntry fun _ _ => ensures_next.2 (hpoll hpi)

/-- E43 simulates a sibling or goes on (42_engine.md R238, R239). -/
theorem ensures_microSibling {s : State} {P : State → Prop}
    (hsim : ∀ a d g, siblingOf a d s = some g → P (simulateSibling g s)) (hpass : P (advance s)) :
    Ensures (microSibling s) P := by
  refine ensures_withPollEntry fun a _ => ensures_withDev fun d _ => ?_
  split
  · next g hg => exact ensures_next.2 (hsim a d g hg)
  · exact ensures_next.2 hpass

/-! ### No micro-step writes the phase (10_state.md R52) -/

theorem drainStep_phase (h : Nat) (rest : List Nat) (v : Option Settings) (s : State) :
    (drainStep h rest v s).phase = s.phase := by
  unfold drainStep
  cases v with
  | none => split_ifs <;> rfl
  | some w => split_ifs <;> rfl

theorem microCheck_phase (s : State) : (microCheck s).phase = s.phase := by
  unfold microCheck
  split_ifs <;> rfl

theorem microPollFilter_phase (s : State) : (microPollFilter s).phase = s.phase := by
  unfold microPollFilter pollFilter
  split
  · rfl
  · split
    · split_ifs <;> rfl
    · rfl

theorem microListenCheck_phase (s : State) : (microListenCheck s).phase = s.phase := by
  unfold microListenCheck
  split_ifs <;> rfl

/-- A checked acknowledgement receive and what follows it, where that leaves the phase. -/
theorem expectAck_phase {e : AckLen} {s : State} {k : State → State} (hk : ∀ u, (k u).phase = u.phase) :
    Ensures ((expectAck e s).andThen k) fun t => t.phase = s.phase :=
  ensures_expectAck (fun _ => by rw [hk, receive_phase]) (by simp)

/-- A checked message receive and what follows it, where that leaves the phase. -/
theorem expectMsg_phase {n : Nat} {header : Bytes} {s : State} {k : State → State}
    (hk : ∀ u, (k u).phase = u.phase) : Ensures ((expectMsg n header s).andThen k) fun t => t.phase = s.phase :=
  ensures_expectMsg (fun _ => by rw [hk, receive_phase]) (by simp)

theorem microStep_phase (s : State) : Ensures (microStep s) fun t => t.phase = s.phase := by
  unfold microStep
  cases s.mpc with
  | e01 | e04 | e22 | e48 | e99 => exact ensures_next.2 rfl
  | e02 => exact ensures_microDrain (fun _ => rfl) fun h rest v _ _ => drainStep_phase h rest v s
  | e03 => exact ensures_next.2 (microCheck_phase s)
  | e05 => exact ensures_next.2 (receive_phase 1 .short s)
  | e06 => exact ensures_next.2 (microPollFilter_phase s)
  | e20 => exact ensures_withDev fun _ _ => ensures_next.2 (sendFrame_phase _ _ _ _)
  | e21 => exact ensures_withDev fun _ _ => expectMsg_phase fun _ => rfl
  | e40 => exact ensures_withDev fun _ _ => ensures_next.2 rfl
  | e41 => exact ensures_microPollNext (fun _ => rfl) fun _ => rfl
  | e42 => exact ensures_withPollEntry fun _ _ => ensures_next.2 (sendFrame_phase _ _ _ _)
  | e43 => exact ensures_microSibling (fun _ _ _ _ => rfl) rfl
  | e44 => exact ensures_next.2 (receive_phase 2 .short s)
  | e45 => exact ensures_next.2 (microListenCheck_phase s)
  | e46 | x04 | x11 => exact ensures_withDev fun _ _ => ensures_next.2 (sendFrame_phase _ _ _ (buildFrame _ s))
  | e47 | x03 | x05 | x10 | x12 | x16 | x19 => exact expectAck_phase fun _ => rfl
  | x06 | x13 => exact expectMsg_phase fun _ => rfl
  | x01 | x02 | x08 | x09 | x14 | x15 | x18 => exact ensures_next.2 (sendFrame_phase _ _ _ _)
  | x07 => exact ensures_microTakeStatus fun _ => rfl
  | x17 => exact ensures_microPatch fun _ _ _ _ => rfl

/-! ### A step of the run phase -/

/-- In the run phase a host command leaves the phase and the register file: ADD_INSTANCE and START are refused
(43_registry_mailboxes.md R281, R282). -/
theorem exec_host_run {w : HostWord} {i : Instr} {s t : State} (hr : s.phase = .run) (hw : decodeHost w = .ok i)
    (h : exec i s = .next t) : t.phase = .run ∧ t.devs = s.devs := by
  obtain ⟨d, p, r, rfl⟩ | rfl | ⟨a, v, rfl⟩ | rfl := decodeHost_cases hw
  · simp [exec_addInstance, execAddInstance, registrationRefusal, hr] at h
  · simp [exec_start, execStart, hr] at h
  · rw [exec_sendSettings, execSendSettings] at h
    split_ifs at h
    cases h
    exact ⟨hr, rfl⟩
  · cases h
    exact ⟨hr, rfl⟩

/-- In the run phase the engine's step is one micro-step, from any position. -/
theorem step_engine_run {s t : State} (hr : s.phase = .run) (ht : s.turn = .engine) (h : step s = .next t) :
    ∃ u, microStep (jump s.mpc s) = .next u ∧ t = nextTurn u := by
  have hx : exec (engineInstr s) s = microStep (jump s.mpc s) := exec_stateRow hr (mem_stateLabels_owner s.mpc s.st)
  have ha : afterExec (microStep (jump s.mpc s)) = .next t := by simpa [step, fetch, ht, hr, hx] using h
  exact afterExec_next ha

theorem step_run_addresses {s t : State} (hr : s.phase = .run) (h : step s = .next t) :
    t.phase = .run ∧ t.devs.map RegisterSet.addresses = s.devs.map RegisterSet.addresses := by
  cases ht : s.turn with
  | host =>
    obtain ⟨q, k, rfl | ⟨w, i, v, hw, hv, rfl⟩⟩ := step_host_cases ht h
    · exact ⟨hr, rfl⟩
    · obtain ⟨hphase, hdevs⟩ := exec_host_run (s := { s with hostIn := q, draws := k }) hr hw hv
      exact ⟨hphase, congrArg _ hdevs⟩
  | engine =>
    obtain ⟨u, hu, rfl⟩ := step_engine_run hr ht h
    exact ⟨(microStep_phase (jump s.mpc s) u hu).trans hr, microStep_addresses (jump s.mpc s) u hu⟩

/-- Settles O47: a step of the run phase keeps the phase and every address, and the number of register sets and the keys
follow from the addresses. -/
theorem registryNeverChangesAfterStart : Obligations.RegistryNeverChangesAfterStart := by
  intro s t hr h
  obtain ⟨hphase, haddr⟩ := step_run_addresses hr h
  exact ⟨hphase, count_of_addresses haddr, reg_of_addresses haddr, haddr⟩

end Sys2Proof.Machine
end

section
/-! PROOFS. The SETTINGS word of a host's settings value (30_encoding.md R127, R131; 43_registry_mailboxes.md R289). -/

namespace Sys2Proof.Machine

/-! ### The half-degree code of a temperature (R131) -/

/-- `Enc(x)` is one of -128..127 exactly where `x` is at least -64.25 and below 63.75. -/
theorem halfDegrees_range_iff (x : ℚ) :
    (-128 ≤ halfDegrees x ∧ halfDegrees x ≤ 127) ↔ (-257 / 4 ≤ x ∧ x < 255 / 4) := by
  have hlo : -128 ≤ halfDegrees x ↔ -257 / 4 ≤ x := by
    rw [halfDegrees, Int.le_floor]
    constructor <;> intro h <;> push_cast at * <;> linarith
  have hhi : halfDegrees x ≤ 127 ↔ x < 255 / 4 := by
    rw [← Int.lt_add_one_iff, halfDegrees, Int.floor_lt]
    constructor <;> intro h <;> push_cast at * <;> linarith
  rw [hlo, hhi]

theorem exists_encodeDegrees_iff (x : ℚ) :
    (∃ b, encodeDegrees x = some b) ↔ (-257 / 4 ≤ x ∧ x < 255 / 4) := by
  rw [← halfDegrees_range_iff, encodeDegrees]
  split_ifs with h <;> simp [h]

/-- The byte of a temperature is `Enc(x)` in two's complement. -/
theorem toInt_of_encodeDegrees {x : ℚ} {b : Byte} (h : encodeDegrees x = some b) : b.toInt = halfDegrees x := by
  unfold encodeDegrees at h
  split_ifs at h with hrange
  cases h
  exact BitVec.toInt_ofInt_eq_self (by decide) hrange.1 (Int.lt_add_one_iff.2 hrange.2)

/-! ### The fields of the word (R127) -/

/-- The SETTINGS word of the two temperature bytes and the other fields. -/
def assembled (t : ThermoSettings) (knob meas : Byte) : Settings :=
  0#4 ++ (BitVec.ofBool t.remoteControl ++ (verbosityBits t.verbosity ++ (BitVec.ofBool t.ignoreMeasured ++
    (meas ++ (knob ++ selectorByte t.selector)))))

theorem settingsWord_eq_some_iff {t : ThermoSettings} {w : Settings} :
    settingsWord t = some w ↔ ∃ knob meas, encodeDegrees t.offset = some knob ∧
      encodeDegrees t.measured = some meas ∧ w = assembled t knob meas := by
  rw [settingsWord]
  cases encodeDegrees t.offset with
  | none => simp
  | some knob =>
    cases encodeDegrees t.measured with
    | none => simp
    | some meas => simp [assembled, eq_comm]

section Append

variable {v w k n : Nat} {x : BitVec v} {y : BitVec w}

/-- A field that lies in the lower part of a word. -/
theorem extractLsb'_append_low {z : BitVec n} (hk : k + n ≤ w) (h : y.extractLsb' k n = z) :
    (x ++ y).extractLsb' k n = z :=
  (BitVec.extractLsb'_append_eq_of_add_le hk).trans h

/-- A field that lies in the upper part of a word. -/
theorem extractLsb'_append_high {z : BitVec n} (hk : w ≤ k) (h : x.extractLsb' (k - w) n = z) :
    (x ++ y).extractLsb' k n = z :=
  (BitVec.extractLsb'_append_eq_of_le hk).trans h

theorem getLsbD_append_low {b : Bool} (hk : k < w) (h : y.getLsbD k = b) : (x ++ y).getLsbD k = b := by
  rw [BitVec.getLsbD_append, if_pos hk, h]

theorem getLsbD_append_high {b : Bool} (hk : w ≤ k) (h : x.getLsbD (k - w) = b) : (x ++ y).getLsbD k = b := by
  rw [BitVec.getLsbD_append, if_neg hk.not_gt, h]

end Append

section Fields

variable (t : ThermoSettings) (knob meas : Byte)

/-- Down to the three low bytes: every field above them is passed. -/
theorem extractLsb'_assembled_low {k n : Nat} {z : BitVec n} (hk : k + n ≤ 24)
    (h : (meas ++ (knob ++ selectorByte t.selector)).extractLsb' k n = z) :
    (assembled t knob meas).extractLsb' k n = z :=
  extractLsb'_append_low (v := 4) (by omega) <| extractLsb'_append_low (v := 1) (by omega) <|
    extractLsb'_append_low (v := 2) (by omega) <| extractLsb'_append_low (v := 1) hk h

theorem settingsSel_assembled : settingsSel (assembled t knob meas) = selectorByte t.selector :=
  extractLsb'_assembled_low t knob meas (by decide) <| extractLsb'_append_low (v := 8) (by decide) <|
    extractLsb'_append_low (v := 8) (by decide) BitVec.extractLsb'_eq_self

theorem settingsKnob_assembled : settingsKnob (assembled t knob meas) = knob :=
  extractLsb'_assembled_low t knob meas (by decide) <| extractLsb'_append_low (v := 8) (by decide) <|
    extractLsb'_append_high (w := 8) (by decide) BitVec.extractLsb'_eq_self

theorem settingsMeas_assembled : settingsMeas (assembled t knob meas) = meas :=
  extractLsb'_assembled_low t knob meas (by decide) <|
    extractLsb'_append_high (w := 16) (by decide) BitVec.extractLsb'_eq_self

theorem settingsIgn_assembled : settingsIgn (assembled t knob meas) = t.ignoreMeasured :=
  getLsbD_append_low (v := 4) (by decide) <| getLsbD_append_low (v := 1) (by decide) <|
    getLsbD_append_low (v := 2) (by decide) <| getLsbD_append_high (w := 24) (by decide) <| by simp

theorem settingsVerb_assembled : settingsVerb (assembled t knob meas) = verbosityBits t.verbosity :=
  extractLsb'_append_low (v := 4) (by decide) <| extractLsb'_append_low (v := 1) (by decide) <|
    extractLsb'_append_high (w := 25) (by decide) BitVec.extractLsb'_eq_self

theorem settingsRce_assembled : settingsRce (assembled t knob meas) = t.remoteControl :=
  getLsbD_append_low (v := 4) (by decide) <| getLsbD_append_high (w := 27) (by decide) <| by simp

theorem settingsReserved_assembled : settingsReserved (assembled t knob meas) = 0#4 :=
  extractLsb'_append_high (w := 28) (by decide) BitVec.extractLsb'_eq_self

end Fields

theorem selectorOk_selectorByte (m : Selector) : selectorOk (selectorByte m) = true := by
  cases m <;> decide

theorem settingsOk_assembled (t : ThermoSettings) (knob meas : Byte) :
    settingsOk (assembled t knob meas) = true := by
  simp [settingsOk, settingsSel_assembled, settingsReserved_assembled, selectorOk_selectorByte]

/-- Settles O60: the word exists where both temperatures have a byte, and each field reads back. -/
theorem settingsWordOfThermoSettings : Obligations.SettingsWordOfThermoSettings := by
  intro t
  simp only [settingsWord_eq_some_iff]
  refine ⟨?_, ?_⟩
  · rw [← exists_encodeDegrees_iff, ← exists_encodeDegrees_iff]
    constructor
    · rintro ⟨_, knob, meas, hk, hm, -⟩
      exact ⟨⟨knob, hk⟩, meas, hm⟩
    · rintro ⟨⟨knob, hk⟩, meas, hm⟩
      exact ⟨_, knob, meas, hk, hm, rfl⟩
  · rintro w ⟨knob, meas, hk, hm, rfl⟩
    refine ⟨settingsOk_assembled t knob meas, ?_, ?_, ?_, settingsIgn_assembled t knob meas, ?_,
      settingsRce_assembled t knob meas⟩
    · refine (settingsSel_assembled t knob meas).trans ?_
      cases t.selector <;> rfl
    · exact (congrArg BitVec.toInt (settingsKnob_assembled t knob meas)).trans (toInt_of_encodeDegrees hk)
    · exact (congrArg BitVec.toInt (settingsMeas_assembled t knob meas)).trans (toInt_of_encodeDegrees hm)
    · refine (settingsVerb_assembled t knob meas).trans ?_
      cases t.verbosity <;> rfl

end Sys2Proof.Machine
end

section
/-! PROOFS. Power-up and the setup phase (70_reset_and_hazards.md R330, R333; 10_state.md R52). -/

namespace Sys2Proof.Machine

/-- In the setup phase an engine step changes nothing, from whatever entry (R52). -/
theorem engineStep_setup (q : EngineState) (entry : Label) {s : State} (h : s.phase = .setup) :
    engineStep q entry s = .next s :=
  if_pos h

/-- In the setup phase the row of every engine state changes nothing. -/
theorem exec_stateRow_setup (q : EngineState) {s : State} (h : s.phase = .setup) : exec (stateRow q) s = .next s := by
  cases q <;> exact engineStep_setup _ _ h

/-- With no register set, no byte is a key of the registry. -/
theorem reg_of_devs_nil {s : State} (h : s.devs = []) (a : Byte) : s.reg a = none :=
  reg_none.2 (by simp [h])

/-- The engine-state rows: one for each engine state of the run phase (42_engine.md R245). -/
theorem exists_stateRow_of_mem {i : Instr}
    (hi : i ∈ [Instr.drainSettings, .checkRemoteEnabled, .dormant, .waitForPoll, .headerExchange, .dataExchange,
      .pollSiblings]) : ∃ q, i = stateRow q := by
  have hrows : i ∈ [EngineState.drainSettings, .checkRemoteEnabled, .dormant, .waitForPoll, .headerExchange,
      .dataExchange, .pollSiblings].map stateRow := hi
  obtain ⟨q, -, hq⟩ := List.mem_map.1 hrows
  exact ⟨q, hq.symm⟩

/-- Settles O52: the fields of `State.reset`, read off; and the engine-state rows are the rows of engine states, none
of which takes a step in the setup phase. -/
theorem powerUpIsSetupPhase : Obligations.PowerUpIsSetupPhase := by
  refine ⟨rfl, rfl, rfl, reg_of_devs_nil rfl, rfl, rfl, rfl, ?_⟩
  intro s hs i hi
  obtain ⟨q, rfl⟩ := exists_stateRow_of_mem hi
  exact exec_stateRow_setup q hs

end Sys2Proof.Machine
end

section
/-! PROOFS. The settings mailboxes, the global flags and the pending handles (42_engine.md R212, R213): in the run phase
the engine writes them in E01 and E02 only. -/

namespace Sys2Proof.Machine

open Sys2Proof.Claims

/-! ### What E01 and E02 write -/

/-- The fields that no micro-step but E01 and E02 writes, and the parameters, which none writes. -/
def State.settled (s : State) : List (Option Settings) × GlobalFlags × List Nat × Config.Parameters :=
  (s.sm, s.flags, s.pend, s.params)

/-- What the micro-step from `s` to `t` does to the settled fields, completely. -/
inductive SettledWrite (s t : State) : Prop
  /-- Every other micro-step, and E02 with no handle left. -/
  | kept (same : t.settled = s.settled)
  /-- E01 chooses the order of the handles (R213). -/
  | ordered (label : s.mpc = .e01)
      (written : t.settled = (s.sm, s.flags, drainOrder (Config.drainPlace s.draws) s.count, s.params))
  /-- E02 on an empty mailbox (R212). -/
  | skipped {h : Nat} {rest : List Nat} (label : s.mpc = .e02) (visited : s.pend = h :: rest)
      (written : t.settled = (s.sm, s.flags, rest, s.params))
  /-- E02 on a settings value, which is taken and applied (R212). -/
  | applied {h : Nat} {rest : List Nat} {w : Settings} (label : s.mpc = .e02) (visited : s.pend = h :: rest)
      (letter : s.sm[h]? = some (some w))
      (written : t.settled = (s.sm.set h none, settingsFlags w, rest, s.params))

@[simp] theorem receive_settled (n : Nat) (t : Tier) (s : State) : (receive n t s).settled = s.settled := by
  simp [State.settled]

@[simp] theorem sendFrame_settled (l : List Label) (b : Bytes) (p : Parity) (s : State) :
    (sendFrame l b p s).settled = s.settled := by
  simp [State.settled]

@[simp] theorem raiseAbort_settled (s : State) : (raiseAbort s).settled = s.settled := rfl

/-- A checked acknowledgement receive and what follows it, where that leaves the settled fields. -/
theorem expectAck_settled {e : AckLen} {s : State} {k : State → State} (hk : ∀ u, (k u).settled = u.settled) :
    Ensures ((expectAck e s).andThen k) fun t => t.settled = s.settled :=
  ensures_expectAck (fun _ => by rw [hk, receive_settled]) (by simp)

/-- A checked message receive and what follows it, where that leaves the settled fields. -/
theorem expectMsg_settled {n : Nat} {header : Bytes} {s : State} {k : State → State}
    (hk : ∀ u, (k u).settled = u.settled) : Ensures ((expectMsg n header s).andThen k) fun t => t.settled = s.settled :=
  ensures_expectMsg (fun _ => by rw [hk, receive_settled]) (by simp)

theorem microCheck_settled (s : State) : (microCheck s).settled = s.settled := by
  unfold microCheck
  split_ifs <;> rfl

theorem microPollFilter_settled (s : State) : (microPollFilter s).settled = s.settled := by
  unfold microPollFilter pollFilter
  split
  · rfl
  · split
    · split_ifs <;> rfl
    · rfl

theorem microListenCheck_settled (s : State) : (microListenCheck s).settled = s.settled := by
  unfold microListenCheck
  split_ifs <;> rfl

/-- Every micro-step but E01 and E02 leaves the settled fields as they are. -/
theorem microStep_settled {s : State} (hl : s.mpc ∉ [Label.e01, .e02]) :
    Ensures (microStep s) fun t => t.settled = s.settled := by
  unfold microStep
  cases h : s.mpc with
  | e01 | e02 => simp [h] at hl
  | e04 | e22 | e48 | e99 => exact ensures_next.2 rfl
  | e03 => exact ensures_next.2 (microCheck_settled s)
  | e05 => exact ensures_next.2 (receive_settled 1 .short s)
  | e06 => exact ensures_next.2 (microPollFilter_settled s)
  | e20 => exact ensures_withDev fun _ _ => ensures_next.2 (sendFrame_settled _ _ _ _)
  | e21 => exact ensures_withDev fun _ _ => expectMsg_settled fun _ => rfl
  | e40 => exact ensures_withDev fun _ _ => ensures_next.2 rfl
  | e41 => exact ensures_microPollNext (fun _ => rfl) fun _ => rfl
  | e42 => exact ensures_withPollEntry fun _ _ => ensures_next.2 (sendFrame_settled _ _ _ _)
  | e43 => exact ensures_microSibling (fun _ _ _ _ => rfl) rfl
  | e44 => exact ensures_next.2 (receive_settled 2 .short s)
  | e45 => exact ensures_next.2 (microListenCheck_settled s)
  | e46 | x04 | x11 => exact ensures_withDev fun _ _ => ensures_next.2 (sendFrame_settled _ _ _ (buildFrame _ s))
  | e47 | x03 | x05 | x10 | x12 | x16 | x19 => exact expectAck_settled fun _ => rfl
  | x06 | x13 => exact expectMsg_settled fun _ => rfl
  | x01 | x02 | x08 | x09 | x14 | x15 | x18 => exact ensures_next.2 (sendFrame_settled _ _ _ _)
  | x07 => exact ensures_microTakeStatus fun _ => rfl
  | x17 => exact ensures_microPatch fun _ _ _ _ => rfl

/-- Where E02 goes after a visit does not bear on the settled fields. -/
theorem drainStep_settled (h : Nat) (rest : List Nat) (v : Option Settings) (s : State) :
    (drainStep h rest v s).settled = (drainOne h v { s with pend := rest }).settled := by
  unfold drainStep
  split_ifs <;> rfl

/-- E02. -/
theorem microDrain_settledWrite {s : State} (hl : s.mpc = .e02) : Ensures (microDrain s) (SettledWrite s) :=
  ensures_microDrain (fun _ => .kept rfl) fun h rest v hp hv => by
    cases v with
    | none => exact .skipped hl hp (drainStep_settled h rest none s)
    | some w => exact .applied hl hp hv (drainStep_settled h rest (some w) s)

/-- The list of writers is complete for the engine's program. -/
theorem microStep_settledWrite (s : State) : Ensures (microStep s) (SettledWrite s) := by
  by_cases hl : s.mpc ∈ [Label.e01, .e02]
  · simp only [List.mem_cons, List.not_mem_nil, or_false] at hl
    obtain h | h := hl
    · simpa [microStep, h] using ensures_next.2 (SettledWrite.ordered (t := microDrainBegin s) h rfl)
    · simpa [microStep, h] using microDrain_settledWrite h
  · exact (microStep_settled hl).mono fun _ => .kept

/-! ### What a step does -/

/-- A step of the engine, from any state: nothing in the setup phase, one micro-step in the run phase. -/
theorem step_engine {s t : State} (ht : s.turn = .engine) (h : step s = .next t) :
    (s.phase = .setup ∧ t = nextTurn s) ∨
      (s.phase = .run ∧ ∃ u, microStep (jump s.mpc s) = .next u ∧ t = nextTurn u) := by
  cases hp : s.phase with
  | setup => exact .inl ⟨rfl, by simpa [step, fetch, ht, hp] using h.symm⟩
  | run => exact .inr ⟨rfl, step_engine_run hp ht h⟩

/-- What a host command that is not refused does, completely (43_registry_mailboxes.md R280, R282, R287, R291). -/
inductive HostEffect (s : State) : State → Prop
  /-- ADD_INSTANCE, its checks passed. -/
  | registered {dev poll : Byte} (reg : Byte) (pass : registrationRefusal dev poll s = none) :
      HostEffect s (responded (.handle (BitVec.ofNat 8 s.count)) (register (newRegisterSet dev poll reg s.draws) s))
  /-- START. -/
  | started (setup : s.phase = .setup) (nonempty : s.count ≠ 0) : HostEffect s (responded .nothing (enterRun s))
  /-- SEND_SETTINGS of a legal word. -/
  | sent (h : Nat) {v : Settings} (legal : settingsOk v = true) :
      HostEffect s (responded .nothing (sendSettingsTo h v s))
  /-- RECEIVE_READINGS. -/
  | received : HostEffect s (responded (.readings (readingsResponse s.rm)) (takeReadings s))

/-- A host command has one of the four effects. -/
theorem exec_host_effect {w : HostWord} {i : Instr} {s t : State} (hw : decodeHost w = .ok i)
    (h : exec i s = .next t) : HostEffect s t := by
  obtain ⟨d, p, r, rfl⟩ | rfl | ⟨a, v, rfl⟩ | rfl := decodeHost_cases hw
  · cases hpass : registrationRefusal d p s with
    | some c => simp [exec_addInstance, execAddInstance, hpass] at h
    | none =>
      cases (exec_addInstance_admitted hpass r).symm.trans h
      exact .registered r hpass
  · rw [exec_start, execStart] at h
    split_ifs at h with hsetup hcount
    cases h
    exact .started (not_not.1 hsetup) hcount
  · rw [exec_sendSettings, execSendSettings] at h
    split_ifs at h with _ hok
    cases h
    exact .sent a.toNat (by simpa using hok)
  · cases h
    exact .received

/-- A try-send keeps every settings value that a mailbox holds (43_registry_mailboxes.md R285). -/
theorem sendSettingsTo_keeps {s : State} {k : Nat} {v : Settings} (hv : s.sm[k]? = some (some v)) (h : Nat)
    (w : Settings) : (sendSettingsTo h w s).sm[k]? = some (some v) := by
  rw [sendSettingsTo_sm, List.getElem?_modify, hv]
  split_ifs <;> rfl

/-- A host command keeps every settings value that a mailbox holds: a second one is dropped (R287). -/
theorem HostEffect.letter {s t : State} (e : HostEffect s t) {k : Nat} {v : Settings}
    (hv : s.sm[k]? = some (some v)) : t.sm[k]? = some (some v) := by
  cases e with
  | registered => exact (List.getElem?_append_left (List.getElem?_eq_some_iff.1 hv).1).trans hv
  | started | received => exact hv
  | sent h => exact sendSettingsTo_keeps hv h _

/-- Settles O16: host commands keep a full mailbox, and of the micro-steps only E02's visit empties one. -/
theorem storedSettingsStayUntilDrained : Obligations.StoredSettingsStayUntilDrained := by
  intro s t k v hv hstep
  cases ht : s.turn with
  | host =>
    left
    obtain ⟨q, n, rfl | ⟨w, i, u, hw, hu, rfl⟩⟩ := step_host_cases ht hstep
    · exact hv
    · exact (exec_host_effect hw hu).letter hv
  | engine =>
    obtain ⟨-, rfl⟩ | ⟨hr, u, hu, rfl⟩ := step_engine ht hstep
    · exact .inl hv
    · cases microStep_settledWrite _ u hu with
      | kept hsame | ordered _ hsame | skipped _ _ hsame =>
        have hsm : u.sm = s.sm := congrArg Prod.fst hsame
        exact .inl (hsm ▸ hv)
      | @applied h rest w hl hp _ hsame =>
        have hsm : u.sm = s.sm.set h none := congrArg Prod.fst hsame
        by_cases hk : h = k
        · subst hk
          have hlt : h < s.sm.length := (List.getElem?_eq_some_iff.1 hv).1
          refine .inr ⟨rfl, ⟨hr, hl⟩, congrArg List.head? hp, ?_⟩
          rw [nextTurn_sm, hsm, List.getElem?_set_self hlt]
        · left
          rw [nextTurn_sm, hsm, List.getElem?_set_ne hk, hv]

/-- The model's three flags are those that the statements write out (43_registry_mailboxes.md R288). -/
theorem settingsFlags_eq_appliedFlags (w : Settings) : settingsFlags w = appliedFlags w := by
  simp [settingsFlags, appliedFlags, remoteFlag, apiFlag, serialFlag, settingsRce, settingsVerb, beq_eq_decide]

/-- In the run phase a host command leaves the global flags: START is refused (43_registry_mailboxes.md R282). -/
theorem HostEffect.flags {s t : State} (e : HostEffect s t) (hr : s.phase = .run) : t.flags = s.flags := by
  cases e with
  | registered | sent | received => rfl
  | started hsetup => simp [hr] at hsetup

/-- Settles O49: of the writers of the settled fields only E02's application of a value writes the flags. -/
theorem globalFlagsWrittenByDrainOnly : Obligations.GlobalFlagsWrittenByDrainOnly := by
  intro s t hi hr hstep hne
  cases ht : s.turn with
  | host =>
    obtain ⟨q, n, rfl | ⟨w, i, u, hw, hu, rfl⟩⟩ := step_host_cases ht hstep
    · exact absurd rfl hne
    · exact absurd ((exec_host_effect hw hu).flags hr) hne
  | engine =>
    obtain ⟨hsetup, -⟩ | ⟨-, u, hu, rfl⟩ := step_engine_cases hi ht hstep
    · simp [hr] at hsetup
    · cases microStep_settledWrite s u hu with
      | kept hsame | ordered _ hsame | skipped _ _ hsame =>
        exact absurd (congrArg (·.2.1) hsame) hne
      | @applied h rest w hl hp hw hsame =>
        have hflags : u.flags = settingsFlags w := congrArg (·.2.1) hsame
        exact ⟨rfl, hl, h, w, congrArg List.head? hp, hw, hflags.trans (settingsFlags_eq_appliedFlags w)⟩

/-- E02's visit of an empty mailbox is recorded and goes on with the next handle, or to E03. -/
theorem drainStep_empty (h : Nat) (rest : List Nat) (s : State) :
    (drainStep h rest none s).mpc = (if rest = [] then .e03 else s.mpc) ∧
      (drainStep h rest none s).events = .drain h none :: s.events := by
  unfold drainStep
  split_ifs <;> exact ⟨rfl, rfl⟩

/-- What a step between cycles leaves and records while remote control is disabled and no settings value waits. -/
def BusUntouched (s t : State) : Prop :=
  t.mpc ∈ [Label.e01, .e02, .e03, .e04] ∧ t.flags = s.flags ∧ t.sm = s.sm ∧
    (t.events = s.events ∨ ∃ h, t.events = .drain h none :: s.events)

/-- E02 with every mailbox empty. -/
theorem microDrain_busUntouched {s : State} (hl : s.mpc = .e02) (hempty : ∀ v, some v ∉ s.sm) :
    Ensures (microDrain s) (BusUntouched s) := by
  refine ensures_microDrain (fun _ => ⟨by simp, rfl, rfl, .inl rfl⟩) fun h rest v _ hv => ?_
  cases v with
  | some w => exact absurd (List.mem_of_getElem? hv) (hempty w)
  | none =>
    obtain ⟨hmpc, hevents⟩ := drainStep_empty h rest s
    have hsame := drainStep_settled h rest none s
    refine ⟨?_, congrArg (·.2.1) hsame, congrArg (·.1) hsame, .inr ⟨h, hevents⟩⟩
    rw [hmpc]
    split_ifs <;> simp [hl]

/-- With remote control disabled E03 goes to E04, and E02 finds no value that could enable it. -/
theorem microStep_busUntouched {s : State} (hl : s.mpc ∈ [Label.e01, .e02, .e03, .e04])
    (hoff : s.flags.remoteControlEnabled = false) (hempty : ∀ v, some v ∉ s.sm) :
    Ensures (microStep s) (BusUntouched s) := by
  unfold microStep
  cases h : s.mpc with
  | e01 => exact ensures_next.2 ⟨by simp [microDrainBegin, h, Label.following], rfl, rfl, .inl rfl⟩
  | e02 => exact microDrain_busUntouched h hempty
  | e03 =>
    rw [microCheck_of_disabled hoff]
    exact ensures_next.2 ⟨by simp, rfl, rfl, .inl rfl⟩
  | e04 => exact ensures_next.2 ⟨by simp [microDormant], rfl, rfl, .inl rfl⟩
  | _ => simp [h] at hl

/-- Settles O51: the engine's step is one of the four micro-steps between cycles, and the turn passes. -/
theorem dormantEngineTouchesNoBus : Obligations.DormantEngineTouchesNoBus := by
  intro s t hi hr ht hl hoff hempty hstep
  obtain ⟨hsetup, -⟩ | ⟨-, u, hu, rfl⟩ := step_engine_cases hi ht hstep
  · simp [hr] at hsetup
  · exact microStep_busUntouched hl hoff hempty u hu

/-! ### The rows of E01 and E02 (42_engine.md R212, R213) -/

theorem exec_drainSettings_at {l : Label} {s : State} (h : EngineAt l s)
    (hl : l ∈ stateLabels .drainSettings := by decide) : exec .drainSettings s = microStep (jump l s) :=
  exec_stateRow_at h hl

theorem insertAt_perm (i x : Nat) (ys : List Nat) : (insertAt i x ys).Perm (x :: ys) := by
  induction ys generalizing i with
  | nil => simp [insertAt]
  | cons y ys ih =>
    cases i with
    | zero => exact .refl _
    | succ i => exact ((ih i).cons y).trans (.swap x y ys)

/-- Every drain order has each handle once (R213). -/
theorem drainOrder_perm (place : Nat → Nat) (n : Nat) : (drainOrder place n).Perm (List.range n) := by
  induction n with
  | zero => exact .refl _
  | succ n ih =>
    rw [List.range_succ]
    exact ((insertAt_perm _ n _).trans (ih.cons n)).trans (List.perm_append_singleton n _).symm

/-- Settles O26: E01's order is a `drainOrder`. -/
theorem drainOrderIsPermutation : Obligations.DrainOrderIsPermutation := by
  intro s h
  exact ⟨drainOrder (Config.drainPlace s.draws) s.count, drainOrder_perm _ _, exec_drainSettings_at h⟩

/-- E02's visit of a handle that has a register set and a mailbox. -/
theorem microDrain_visit {s : State} {h : Nat} {rest : List Nat} {d : RegisterSet} {v : Option Settings}
    (hp : s.pend = h :: rest) (hd : s.devs[h]? = some d) (hv : s.sm[h]? = some v) :
    microDrain s = .next (drainStep h rest v s) := by
  simp only [microDrain, hp, withDev_of_some hd, hv]

/-- E02's visit of a settings value, in the statements' words (R212, 43_registry_mailboxes.md R288). -/
theorem drainOne_some {s : State} {h : Nat} {d : RegisterSet} (hd : s.devs[h]? = some d) (w : Settings) :
    drainOne h (some w) s =
      { s with
        events := .drain h (some w) :: s.events
        sm := s.sm.set h none
        devs := s.devs.set h (applied w d)
        flags := appliedFlags w } := by
  rw [drainOne, applySettingsTo_eq h w (takeSettings h (record _ s)) d hd, applyToRegisters_eq_applied,
    settingsFlags_eq_appliedFlags]
  rfl

/-- Settles O27: the visit records, takes and applies, and the jump to E03 writes the label and the state alone. -/
theorem drainVisitAppliesSettings : Obligations.DrainVisitAppliesSettings := by
  intro s h rest d hat hp hd next hnext
  subst hnext
  have visit {v : Option Settings} (hv : s.sm[h]? = some v) :
      exec .drainSettings s = .next (drainStep h rest v (jump .e02 s)) :=
    (exec_drainSettings_at hat).trans (microDrain_visit (s := jump .e02 s) hp hd hv)
  refine ⟨fun hv => ?_, fun w hv => ?_⟩
  · rw [visit hv, drainStep]
    split_ifs <;> rfl
  · rw [visit hv, drainStep, drainOne_some (s := { jump .e02 s with pend := rest }) hd]
    split_ifs <;> rfl

end Sys2Proof.Machine
end

section
/-! PROOFS. The invariant (10_state.md sections 1 to 6, 42_engine.md section 7): power-up meets it and every step keeps
it. -/

namespace Sys2Proof.Machine

open Sys2Proof.Claims

/-! ### What the invariant does not look at -/

/-- The invariant bears on neither agent's inputs, nor on what is recorded, returned, drawn or left of the turns. -/
theorem State.Inv.of_environment {s t : State} (h : s.Inv)
    (same : t = { s with
      events := t.events, ret := t.ret, hostIn := t.hostIn, busIn := t.busIn, hostTurns := t.hostTurns,
      draws := t.draws }) : t.Inv := by
  rw [same]
  exact
    { h with
      position := fun hr => by
        have p := h.position hr
        exact { p with } }

/-! ### The position registers (10_state.md R51) -/

/-- The registers that a sound position is about, besides the label, the state and X07's frame. -/
def State.registers (s : State) : Nat × Nat × Nat × Fin 2 × Nat × Nat × Option Byte :=
  (s.count, s.cur, s.hdl, s.nest, s.pi, s.rep, s.prev)

@[simp] theorem receive_registers (n : Nat) (t : Tier) (s : State) : (receive n t s).registers = s.registers := by
  simp [State.registers, State.count]

/-- A sound position owes nothing at `l'` that it does not owe at `l` already, X07's frame left out. -/
abbrev Label.OwesNoMore (l l' : Label) : Prop :=
  (l'.idle = false → l.idle = false) ∧
    (l'.inDataExchange = true ∨ l' = .e41 ∨ l'.polling = true →
      l.inDataExchange = true ∨ l = .e41 ∨ l.polling = true) ∧
    (l.inDataExchange = true ∨ l = .e48 ∨ l = .e99 → l'.inDataExchange = true ∨ l' = .e48 ∨ l' = .e99) ∧
    (l'.inDataExchange = true → l.inDataExchange = true) ∧ (l' = .e41 → l = .e41) ∧
    (l'.polling = true → l.polling = true)

/-- A move of the sequencer that owes no more keeps the position sound. -/
theorem PositionSound.move {s t : State} (p : PositionSound s) (hregs : t.registers = s.registers)
    (hl : s.mpc.OwesNoMore t.mpc) (hstate : stateAgrees t.mpc t.st) (hstatus : t.mpc = .x07 → t.rxb.length = 24) :
    PositionSound t := by
  simp only [State.registers, Prod.mk.injEq] at hregs
  obtain ⟨hcount, hcur, hhdl, hnest, hpi, hrep, hprev⟩ := hregs
  obtain ⟨hidle, huses, hnests, hinside, he41, hpolls⟩ := hl
  constructor
  · exact hstate
  · rw [hcur, hcount]
    exact fun h => p.cur (hidle h)
  · rw [hhdl, hcount]
    exact fun h => p.hdl (huses h)
  · rw [hnest]
    exact p.nest.imp_right hnests
  · rw [hnest, hhdl, hcur]
    exact fun h => p.unnested (hinside h)
  · rw [hpi]
    exact ⟨fun h => p.index.1 (he41 h), fun h => p.index.2 (hpolls h)⟩
  · rw [hrep]
    exact fun h => p.count (hpolls h)
  · exact hstatus
  · rw [hprev]
    exact fun h => p.prev (hidle h)

/-- Between cycles the position owes its state only, and that nothing is nested. -/
theorem positionSound_of_idle {t : State} (hidle : t.mpc.idle = true) (hstate : stateAgrees t.mpc t.st)
    (hnest : t.nest = 0) : PositionSound t := by
  have hno : ∀ l : Label, l.idle = true → l.inDataExchange = false ∧ l ≠ .e41 ∧ l.polling = false ∧ l ≠ .x07 := by
    intro l
    cases l <;> decide
  obtain ⟨hinside, he41, hpolls, hx07⟩ := hno _ hidle
  constructor <;> simp [hidle, hstate, hnest, hinside, he41, hpolls, hx07]

/-- Where no exchange may be nested, none is (R244). -/
theorem PositionSound.nest_eq_zero {s : State} {l : Label} (p : PositionSound s) (h : s.mpc = l)
    (hl : ¬ (l.inDataExchange = true ∨ l = .e48 ∨ l = .e99) := by decide) : s.nest = 0 :=
  p.nest.resolve_right (h ▸ hl)

/-- The sequencer's pass goes to a micro-step of the same state, or writes the state that goes with it (R245). -/
theorem stateAgrees_following {l : Label} {st : EngineState} (h : stateAgrees l st) :
    stateAgrees l.following (l.following.entryState.getD st) := by
  cases l <;> simp_all [stateAgrees, Label.owner, Label.following, Label.entryState]

/-- The abort comes with the state of the exchange it ends (R300). -/
theorem stateAgrees_abort {l : Label} {st : EngineState} (h : stateAgrees l st) (hl : l.idle = false) :
    stateAgrees .e99 st := by
  cases l <;> simp_all [stateAgrees, Label.owner, Label.idle]

/-- The sequencer passes a micro-step whose successor owes no more. -/
theorem PositionSound.pass {s u : State} {l : Label} (p : PositionSound s) (h : s.mpc = l)
    (hsame : u.mpc = s.mpc ∧ u.st = s.st) (hregs : u.registers = s.registers)
    (hl : l.OwesNoMore l.following ∧ l.following ≠ .x07 := by decide) : PositionSound (advance u) := by
  subst h
  obtain ⟨hmpc, hst⟩ := hsame
  refine p.move hregs ?_ ?_ ?_
  · rw [advance_mpc, hmpc]
    exact hl.1
  · rw [advance_mpc, advance_st, hmpc, hst]
    exact stateAgrees_following p.state
  · rw [advance_mpc, hmpc]
    exact fun h => absurd h hl.2

/-- An abort within an exchange. -/
theorem PositionSound.abort {s u : State} {l : Label} (p : PositionSound s) (h : s.mpc = l) (hst : u.st = s.st)
    (hregs : u.registers = s.registers) (hl : l.OwesNoMore .e99 := by decide) : PositionSound (raiseAbort u) := by
  subst h
  exact p.move hregs hl (hst ▸ stateAgrees_abort p.state (hl.1 rfl)) nofun

/-! ### The position after each kind of micro-step -/

/-- A frame sent from a micro-step that sends it, in the run phase. -/
theorem PositionSound.send {s u : State} {l : Label} {labels : List Label} (p : PositionSound s) (h : s.mpc = l)
    (hr : s.phase = .run) (hu : u.phase = s.phase ∧ u.mpc = s.mpc ∧ u.st = s.st) (hregs : u.registers = s.registers)
    (b : Bytes) (m : Parity)
    (hl : l ∈ labels ∧ l.OwesNoMore l.following ∧ l.following ≠ .x07 := by decide) :
    PositionSound (sendFrame labels b m u) := by
  obtain ⟨hphase, hmpc, hst⟩ := hu
  rw [sendFrame_pass labels b m u (by simp [State.standsAt, hphase, hr, hmpc, h, hl.1])]
  exact p.pass (u := txBurst b m u) h ⟨hmpc, hst⟩ hregs hl.2

/-- An acknowledgement received, the next micro-step or the abort after it. -/
theorem PositionSound.acknowledged {s : State} {l : Label} (p : PositionSound s) (h : s.mpc = l) (e : AckLen)
    (hl : (l.OwesNoMore l.following ∧ l.following ≠ .x07) ∧ l.OwesNoMore .e99 := by decide) :
    Ensures ((expectAck e s).andThen advance) PositionSound :=
  ensures_expectAck (fun _ => p.pass h (by simp) (by simp) hl.1) (p.abort h (by simp) (by simp) hl.2)

/-- E02's next handle, or E03 after the last. -/
theorem positionSound_drainStep {s : State} (p : PositionSound s) (h : s.mpc = .e02) (k : Nat) (rest : List Nat)
    (v : Option Settings) : PositionSound (drainStep k rest v s) := by
  have hn : (drainOne k v { s with pend := rest }).nest = 0 := by
    cases v <;> exact p.nest_eq_zero h
  have hm : (drainOne k v { s with pend := rest }).mpc = .e02 := by
    cases v <;> exact h
  have hs : (drainOne k v { s with pend := rest }).st = .drainSettings := by
    have := p.state
    rw [h] at this
    cases v <;> exact this
  unfold drainStep
  split_ifs
  · exact positionSound_of_idle rfl rfl hn
  · exact positionSound_of_idle (by rw [hm]; rfl) (by rw [hm]; exact hs) hn

/-- E03's two ways. -/
theorem positionSound_microCheck {s : State} (p : PositionSound s) (h : s.mpc = .e03) :
    PositionSound (microCheck s) := by
  unfold microCheck
  split_ifs <;> exact positionSound_of_idle rfl rfl (p.nest_eq_zero h)

/-- E06: the cycle ends, or a device is selected and `prev` cleared (R216). -/
theorem positionSound_microPollFilter {s : State} (p : PositionSound s) (h : s.mpc = .e06) :
    PositionSound (microPollFilter s) := by
  have hn := p.nest_eq_zero h
  unfold microPollFilter
  cases hr : s.rxb with
  | nil => exact positionSound_of_idle rfl rfl hn
  | cons b rest =>
    by_cases hno : s.reg b = none ∨ s.prev ≠ some b
    · rw [pollFilter_unconfirmed hno]
      exact positionSound_of_idle rfl rfl hn
    · simp only [not_or, not_not] at hno
      obtain ⟨g, hreg⟩ := Option.ne_none_iff_exists'.1 hno.1
      obtain ⟨d, hd, -⟩ := reg_some hreg
      have hg : g < s.devs.length := (List.getElem?_eq_some_iff.1 hd).1
      rw [pollFilter_confirmed hreg hno.2]
      constructor <;>
        simp [stateAgrees, Label.entryState, Label.owner, Label.idle, Label.inDataExchange, Label.polling, stateLabels,
          hn, hg, State.count]

/-- X01 with the data exchange called on a register set (R221, R239). -/
theorem positionSound_x01 {t : State} (hmpc : t.mpc = .x01) (hst : t.st = .dataExchange) (hcur : t.cur < t.count)
    (hhdl : t.hdl < t.count) (hnest : t.nest = 0 → t.hdl = t.cur) (hprev : t.prev = none) : PositionSound t := by
  constructor <;>
    simp [hmpc, hst, hcur, hhdl, hprev, stateAgrees, Label.owner, Label.inDataExchange, Label.polling, stateLabels]
  exact hnest

/-- E22 calls the data exchange of the selected device (R221). -/
theorem positionSound_microDataEnter {s : State} (p : PositionSound s) (h : s.mpc = .e22) :
    PositionSound (microDataEnter s) := by
  have hst : s.st = .dataExchange := by
    simpa [h, stateAgrees, Label.owner] using p.state
  have hcur : s.cur < s.count := p.cur (by rw [h]; rfl)
  refine positionSound_x01 ?_ ?_ hcur hcur (fun _ => rfl) (p.prev (by rw [h]; rfl))
  · simp [microDataEnter, h, Label.following]
  · simp [microDataEnter, h, Label.following, Label.entryState, hst]

/-- E43: a simulated sibling's data exchange is nested (R239); otherwise the listen window follows (R240). -/
theorem positionSound_microSibling {s : State} (p : PositionSound s) (h : s.mpc = .e43) :
    Ensures (microSibling s) PositionSound := by
  refine ensures_microSibling (fun a d g hg => ?_) (p.pass h ⟨rfl, rfl⟩ rfl)
  obtain ⟨-, -, hreg, -⟩ := siblingOf_eq_some_iff.1 hg
  obtain ⟨e, he, -⟩ := reg_some hreg
  have hlt : g < s.devs.length := (List.getElem?_eq_some_iff.1 he).1
  have hcount : (simulateSibling g s).count = s.count := by
    simp [simulateSibling, State.count]
  refine positionSound_x01 rfl rfl ?_ ?_ (fun hn => ?_) (p.prev (by rw [h]; rfl))
  · exact hcount ▸ p.cur (by rw [h]; rfl)
  · exact hcount ▸ hlt
  · cases hn

/-- In the poll phase, the poll index and the transmission count besides what every exchange owes. -/
theorem positionSound_of_poll {t : State}
    (hmpc : t.mpc = .e41 ∧ t.pi ≤ 8 ∨ t.mpc = .e42 ∧ t.pi < 8 ∧ 1 ≤ t.rep ∧ t.rep ≤ 5) (hst : t.st = .pollSiblings) (hcur : t.cur < t.count) (hhdl : t.hdl < t.count) (hnest : t.nest = 0)
    (hprev : t.prev = none) : PositionSound t := by
  obtain ⟨hmpc, hpi⟩ | ⟨hmpc, hpi, hrep⟩ := hmpc <;> constructor <;>
    simp_all [stateAgrees, Label.owner, Label.inDataExchange, Label.polling, stateLabels]

/-- The registers of the poll phase at one of its micro-steps. -/
theorem PositionSound.poll {s : State} {l : Label} (p : PositionSound s) (h : s.mpc = l)
    (hl : l = .e41 ∨ l.polling = true := by decide) :
    s.st = .pollSiblings ∧ s.cur < s.count ∧ s.hdl < s.count ∧ s.nest = 0 ∧ s.prev = none := by
  subst h
  have hlabel : ∀ l : Label, l = .e41 ∨ l.polling = true → (∀ st, stateAgrees l st → st = .pollSiblings) ∧
      l.idle = false ∧ ¬ (l.inDataExchange = true ∨ l = .e48 ∨ l = .e99) := by
    intro l hl
    cases l <;> simp_all [stateAgrees, Label.owner, Label.polling, Label.idle, Label.inDataExchange, stateLabels]
  obtain ⟨hst, hidle, hno⟩ := hlabel _ hl
  exact ⟨hst _ p.state, p.cur hidle, p.hdl (.inr hl), p.nest_eq_zero rfl hno, p.prev hidle⟩

/-- E40: the own slot number is a poll index (R236). -/
theorem positionSound_microPollEnter {s : State} (p : PositionSound s) (h : s.mpc = .e40)
    (hslot : ∀ d, s.devs[s.cur]? = some d → slotNumber d.deviceAddress ≤ 8) :
    Ensures (microPollEnter s) PositionSound := by
  have hcur : s.cur < s.count := p.cur (by rw [h]; rfl)
  have hst : s.st = .pollSiblings := by
    simpa [h, stateAgrees, Label.owner] using p.state
  refine ensures_withDev fun d hd => ensures_next.2 ?_
  refine positionSound_of_poll (.inl ⟨?_, hslot d hd⟩) ?_ hcur hcur (p.nest_eq_zero h) (p.prev (by rw [h]; rfl))
  · simp [h, Label.following]
  · simp [h, Label.following, Label.entryState, hst]

/-- E41: the phase ends, or the next address has its first transmission (R237, R242). -/
theorem positionSound_microPollNext {s : State} (p : PositionSound s) (h : s.mpc = .e41) :
    Ensures (microPollNext s) PositionSound := by
  obtain ⟨hst, hcur, hhdl, hnest, hprev⟩ := p.poll h
  refine ensures_microPollNext (fun _ => positionSound_of_idle rfl rfl hnest) fun hpi => ?_
  refine positionSound_of_poll (.inr ⟨?_, Nat.lt_of_le_of_ne (p.index.1 h) hpi, by simp⟩) ?_ hcur hhdl hnest hprev
  · simp [h, Label.following]
  · simp [h, Label.following, Label.entryState, hst]

/-- E45: the poll reply, the next transmission or the next address (R237, R240). -/
theorem positionSound_microListenCheck {s : State} (p : PositionSound s) (h : s.mpc = .e45) :
    PositionSound (microListenCheck s) := by
  obtain ⟨hst, hcur, hhdl, hnest, hprev⟩ := p.poll h
  have hpi : s.pi < 8 := p.index.2 (by rw [h]; rfl)
  unfold microListenCheck
  split_ifs with hack hrep
  · exact p.move rfl (h ▸ (by decide : Label.OwesNoMore .e45 .e46)) hst nofun
  · exact positionSound_of_poll (.inr ⟨rfl, hpi, Nat.le_add_left 1 _, hrep⟩) hst hcur hhdl hnest hprev
  · exact positionSound_of_poll (.inl ⟨rfl, hpi⟩) hst hcur hhdl hnest hprev

/-- X19's return: to the poll phase, or to the nested end (R221, R245). -/
theorem positionSound_returnFromExchange {s u : State} (p : PositionSound s) (h : s.mpc = .x19) (hst : u.st = s.st)
    (hregs : u.registers = s.registers) : PositionSound (returnFromExchange u) := by
  have hdx : s.st = .dataExchange := by
    simpa [h, stateAgrees, Label.owner] using p.state
  have hmid : s.mpc.idle = false := by rw [h]; rfl
  have hboth : u.cur < u.count ∧ u.prev = none := by
    simp only [State.registers, Prod.mk.injEq] at hregs
    obtain ⟨hcount, hcur, -, -, -, -, hprev⟩ := hregs
    rw [hcount, hcur, hprev]
    exact ⟨p.cur hmid, p.prev hmid⟩
  obtain ⟨hcur, hprev⟩ := hboth
  unfold returnFromExchange
  split_ifs with hn
  · constructor <;>
      simp [stateAgrees, Label.owner, Label.entryState, Label.idle, Label.inDataExchange, Label.polling, stateLabels,
        hn, hprev]
    exact hcur
  · exact p.move hregs (h ▸ (by decide : Label.OwesNoMore .x19 .e48)) (hst.trans hdx) nofun

/-- X06: the accepted status reply has the 24 bytes that X07 reads (R226). -/
theorem positionSound_microStatusReply {s : State} (p : PositionSound s) (h : s.mpc = .x06) :
    Ensures (microStatusReply s) PositionSound := by
  refine ensures_expectMsg (fun hok => p.move (by simp [State.registers, State.count]) ?_ ?_ fun _ => ?_)
    (p.abort h (by simp) (by simp))
  · rw [h, advance_mpc, receive_mpc, h]
    decide
  · rw [advance_mpc, advance_st, receive_mpc, receive_st]
    exact stateAgrees_following p.state
  · rw [advance_rxb, receive_rxb]
    exact Nat.le_antisymm (received_length_le 24 s) (length_of_accepts hok)

theorem slotNumber_le {d : RegisterSet} (h : d.Sound) : slotNumber d.deviceAddress ≤ 8 := by
  obtain ⟨hslot, -⟩ := h
  simp only [slotOk, Bool.or_eq_true, beq_iff_eq] at hslot
  omega

/-- Every micro-step keeps the position sound. -/
theorem microStep_position {s : State} (hi : s.Inv) (hr : s.phase = .run) : Ensures (microStep s) PositionSound := by
  have p := hi.position hr
  unfold microStep
  cases h : s.mpc with
  | e01 => exact ensures_next.2 (p.pass h ⟨rfl, rfl⟩ rfl)
  | e02 =>
    exact ensures_microDrain (fun _ => positionSound_of_idle rfl rfl (p.nest_eq_zero h))
      fun k rest v _ _ => positionSound_drainStep p h k rest v
  | e03 => exact ensures_next.2 (positionSound_microCheck p h)
  | e04 => exact ensures_next.2 (positionSound_of_idle rfl rfl (p.nest_eq_zero h))
  | e05 =>
    refine ensures_next.2 (positionSound_of_idle rfl ?_ ?_)
    · simpa [h, stateAgrees, microPollReceive, Label.entryState, Label.owner] using p.state
    · simpa [microPollReceive] using p.nest_eq_zero h
  | e06 => exact ensures_next.2 (positionSound_microPollFilter p h)
  | e20 => exact ensures_withDev fun _ _ => ensures_next.2 (p.send h hr ⟨rfl, rfl, rfl⟩ rfl _ _)
  | e21 =>
    refine ensures_withDev fun _ _ => ensures_expectMsg (fun _ => p.pass h (by simp) ?_) (p.abort h (by simp) (by simp))
    simp [State.registers, State.count]
  | e22 => exact ensures_next.2 (positionSound_microDataEnter p h)
  | e40 => exact positionSound_microPollEnter p h fun d hd => slotNumber_le (hi.sets d (List.mem_of_getElem? hd))
  | e41 => exact positionSound_microPollNext p h
  | e42 => exact ensures_withPollEntry fun _ _ => ensures_next.2 (p.send h hr ⟨rfl, rfl, rfl⟩ rfl _ _)
  | e43 => exact positionSound_microSibling p h
  | e44 => exact ensures_next.2 (p.pass h (by simp) (by simp))
  | e45 => exact ensures_next.2 (positionSound_microListenCheck p h)
  | e46 | x04 | x11 =>
    exact ensures_withDev fun _ _ => ensures_next.2 (p.send (u := buildFrame _ s) h hr ⟨rfl, rfl, rfl⟩ rfl _ _)
  | e47 =>
    refine ensures_expectAck (fun _ => positionSound_of_idle rfl rfl ?_) (p.abort h (by simp) (by simp))
    simpa using p.nest_eq_zero h
  | e48 | e99 => exact ensures_next.2 (positionSound_of_idle rfl rfl rfl)
  | x01 | x02 | x08 | x09 | x14 | x15 | x18 => exact ensures_next.2 (p.send h hr ⟨rfl, rfl, rfl⟩ rfl _ _)
  | x03 | x05 | x10 | x12 | x16 => exact p.acknowledged h _
  | x06 => exact positionSound_microStatusReply p h
  | x07 => exact ensures_microTakeStatus fun _ => p.pass h ⟨rfl, rfl⟩ (by simp [State.registers, State.count, publish])
  | x13 =>
    exact ensures_expectMsg (fun _ => p.pass h (by simp) (by simp [State.registers, State.count]))
      (p.abort h (by simp) (by simp))
  | x17 => exact ensures_microPatch fun _ _ _ _ => p.pass h ⟨rfl, rfl⟩ rfl
  | x19 =>
    exact ensures_expectAck (fun _ => positionSound_returnFromExchange p h (by simp) (by simp))
      (p.abort h (by simp) (by simp))

/-! ### The buffers, the data-exchange step and the transmit enable (10_state.md R51, R54; 41_transport.md R191) -/

/-- The buffers have their sizes, the data-exchange step is in its range, and no burst is under way. -/
structure State.Tidy (s : State) : Prop where
  buffers : s.cfg.length = 48 ∧ s.rxb.length ≤ 48
  exchangeStep : 1 ≤ s.dxStep ∧ s.dxStep ≤ 4
  quiet : s.txEn = false

theorem State.Tidy.pass {s : State} (h : s.Tidy) : (advance s).Tidy where
  buffers := h.buffers
  exchangeStep := by
    rw [advance_dxStep]
    cases s.mpc <;> simp [Label.opensStep, h.exchangeStep]
  quiet := h.quiet

theorem State.Tidy.receive {s : State} (h : s.Tidy) {n : Nat} (hn : n ≤ 48) (t : Tier) : (receive n t s).Tidy where
  buffers := by
    rw [receive_cfg, receive_rxb]
    exact ⟨h.buffers.1, (received_length_le n s).trans hn⟩
  exchangeStep := by simpa using h.exchangeStep
  quiet := by simpa using h.quiet

theorem State.Tidy.send {s : State} (h : s.Tidy) (l : List Label) (b : Bytes) (p : Parity) :
    (sendFrame l b p s).Tidy := by
  have hburst : (txBurst b p s).Tidy := ⟨h.buffers, h.exchangeStep, rfl⟩
  unfold sendFrame
  split_ifs
  · exact hburst.pass
  · exact hburst

/-- A checked acknowledgement receive and what follows it. -/
theorem State.Tidy.acknowledged {s : State} (h : s.Tidy) {e : AckLen} {k : State → State}
    (hk : ∀ u : State, u.Tidy → (k u).Tidy) : Ensures ((expectAck e s).andThen k) State.Tidy := by
  have hr := h.receive (n := (ackBytes e).length) (by cases e <;> decide) .long
  exact ensures_expectAck (fun _ => hk _ hr) { hr with }

/-- A checked message receive and what follows it. -/
theorem State.Tidy.message {s : State} (h : s.Tidy) {n : Nat} {header : Bytes} {k : State → State} (hn : n ≤ 48)
    (hk : ∀ u : State, u.Tidy → n ≤ u.rxb.length → (k u).Tidy) :
    Ensures ((expectMsg n header s).andThen k) State.Tidy := by
  have hr := h.receive hn .long
  exact ensures_expectMsg (fun hok => hk _ hr (by simpa using length_of_accepts hok)) { hr with }

theorem tidy_drainStep {s : State} (h : s.Tidy) (k : Nat) (rest : List Nat) (v : Option Settings) :
    (drainStep k rest v s).Tidy := by
  unfold drainStep
  cases v <;> split_ifs <;> exact { h with }

theorem tidy_microPollFilter {s : State} (h : s.Tidy) : (microPollFilter s).Tidy := by
  unfold microPollFilter pollFilter
  split
  · exact { h with }
  · split
    · split_ifs <;> exact { h with }
    · exact { h with }

/-- CRC_INSERT keeps the buffer's length (40_codec.md R164). -/
theorem length_crcInsert {b f : Bytes} {k n : Nat} (h : crcInsert b k n = some f) : f.length = b.length := by
  by_cases hfits : k + n + 2 ≤ b.length
  · rw [crcInsert_of_le hfits] at h
    cases h
    exact length_crcInserted b k n
  · rw [crcInsert_of_lt (Nat.lt_of_not_le hfits)] at h
    cases h

/-- Every micro-step keeps the buffers' sizes, the data-exchange step's range and the transmit enable low. -/
theorem microStep_tidy {s : State} (h : s.Tidy) : Ensures (microStep s) State.Tidy := by
  unfold microStep
  cases s.mpc with
  | e01 => exact ensures_next.2 (State.Tidy.pass { h with })
  | e02 => exact ensures_microDrain (fun _ => { h with }) fun k rest v _ _ => tidy_drainStep h k rest v
  | e03 => exact ensures_next.2 (by unfold microCheck; split_ifs <;> exact { h with })
  | e04 | e48 => exact ensures_next.2 { h with }
  | e05 => exact ensures_next.2 { h.receive (n := 1) (by decide) .short with }
  | e06 => exact ensures_next.2 (tidy_microPollFilter h)
  | e20 => exact ensures_withDev fun _ _ => ensures_next.2 (h.send _ _ _)
  | e21 => exact ensures_withDev fun _ _ => h.message (by decide) fun u hu _ => State.Tidy.pass { hu with }
  | e22 => exact ensures_next.2 (State.Tidy.pass { h with })
  | e40 => exact ensures_withDev fun _ _ => ensures_next.2 (State.Tidy.pass { h with })
  | e41 => exact ensures_microPollNext (fun _ => { h with }) fun _ => State.Tidy.pass { h with }
  | e42 => exact ensures_withPollEntry fun _ _ => ensures_next.2 (h.send _ _ _)
  | e43 => exact ensures_microSibling (fun _ _ _ _ => { h with }) h.pass
  | e44 => exact ensures_next.2 (h.receive (by decide) .short).pass
  | e45 => exact ensures_next.2 (by unfold microListenCheck; split_ifs <;> exact { h with })
  | e46 | x04 | x11 =>
    exact ensures_withDev fun _ _ => ensures_next.2 (State.Tidy.send (s := buildFrame _ s) { h with } _ _ _)
  | e47 => exact h.acknowledged fun u hu => { hu with }
  | e99 => exact ensures_next.2 { h with buffers := ⟨by simp, by simp⟩ }
  | x01 | x02 | x08 | x09 | x14 | x15 | x18 => exact ensures_next.2 (h.send _ _ _)
  | x03 | x05 | x10 | x12 | x16 => exact h.acknowledged fun u hu => hu.pass
  | x06 => exact h.message (by decide) fun u hu _ => hu.pass
  | x07 => exact ensures_microTakeStatus fun _ => State.Tidy.pass { h with }
  | x13 =>
    refine h.message (by decide) fun u hu hlen => State.Tidy.pass { hu with buffers := ⟨?_, hu.buffers.2⟩ }
    exact Nat.le_antisymm hu.buffers.2 hlen
  | x17 =>
    refine ensures_microPatch fun d frame _ hframe => State.Tidy.pass { h with buffers := ⟨?_, h.buffers.2⟩ }
    exact (length_crcInsert hframe).trans ((length_patchConfig d s.cfg).trans h.buffers.1)
  | x19 => exact h.acknowledged fun u hu => { hu with buffers := ⟨by simp [returnFromExchange], hu.buffers.2⟩ }

/-! ### The register sets and the settings mailboxes -/

/-- Registration and every write of R41 by a legal settings value keep a register set sound. -/
theorem RegisterWrite.sound {s : State} {r : Bytes} {h : Nat} {f : RegisterSet → RegisterSet}
    (hw : RegisterWrite s r h f) (hletters : ∀ v, some v ∈ s.sm → settingsOk v = true) {d : RegisterSet}
    (hd : d.Sound) : (f d).Sound := by
  obtain ⟨hslot, hparity, hsel, hdip⟩ := hd
  cases hw with
  | @drain _ w _ _ hs =>
    have hok := hletters w (List.mem_of_getElem? hs)
    simp only [settingsOk, Bool.and_eq_true] at hok
    exact ⟨hslot, hparity, hok.1, dipByte_cases _⟩
  | status | header | sibling => exact ⟨hslot, hparity, hsel, hdip⟩

theorem microStep_sets {s : State} (hi : s.Inv) : Ensures (microStep s) fun t => ∀ d ∈ t.devs, d.Sound := by
  refine (microStep_devsWritten s).mono fun t ht => ?_
  obtain hsame | ⟨h, f, hw, hmod⟩ := ht
  · rw [hsame]
    exact hi.sets
  · intro e he
    rw [hmod] at he
    obtain ⟨i, hi'⟩ := List.mem_iff_getElem?.1 he
    rw [List.getElem?_modify] at hi'
    obtain ⟨d, hd, rfl⟩ := Option.map_eq_some_iff.1 hi'
    have hsound := hi.sets d (List.mem_of_getElem? hd)
    split_ifs
    · exact hw.sound hi.letters hsound
    · exact hsound

/-- The settings mailboxes and the handles to be visited, as the invariant has them for `n` register sets. -/
structure MailSound (n : Nat) (sm : List (Option Settings)) (pend : List Nat) : Prop where
  boxes : sm.length = n
  letters : ∀ v, some v ∈ sm → settingsOk v = true
  pending : pend.Nodup ∧ ∀ h ∈ pend, h < n

theorem MailSound.visited {n h : Nat} {sm : List (Option Settings)} {rest : List Nat}
    (hm : MailSound n sm (h :: rest)) : MailSound n sm rest :=
  { hm with pending := ⟨(List.nodup_cons.1 hm.pending.1).2, fun k hk => hm.pending.2 k (List.mem_cons_of_mem h hk)⟩ }

theorem MailSound.taken {n : Nat} {sm : List (Option Settings)} {pend : List Nat} (hm : MailSound n sm pend) (h : Nat) :
    MailSound n (sm.set h none) pend :=
  { hm with
    boxes := by rw [List.length_set, hm.boxes]
    letters := fun v hv => hm.letters v ((List.mem_or_eq_of_mem_set hv).resolve_right nofun) }

theorem MailSound.of_settled {n : Nat} {s t : State} {sm : List (Option Settings)} {flags : GlobalFlags}
    {pend : List Nat} (h : t.settled = (sm, flags, pend, s.params)) (hm : MailSound n sm pend) :
    MailSound n t.sm t.pend ∧ t.params = s.params := by
  simp only [State.settled, Prod.mk.injEq] at h
  obtain ⟨rfl, -, rfl, hparams⟩ := h
  exact ⟨hm, hparams⟩

/-- Every micro-step keeps the mailboxes and the pending handles sound, and the parameters. -/
theorem microStep_mail {s : State} (hm : MailSound s.count s.sm s.pend) :
    Ensures (microStep s) fun t => MailSound s.count t.sm t.pend ∧ t.params = s.params := by
  refine (microStep_settledWrite s).mono fun t ht => ?_
  cases ht with
  | kept hsame => exact MailSound.of_settled hsame hm
  | ordered _ hsame =>
    have hperm := drainOrder_perm (Config.drainPlace s.draws) s.count
    have hpending : (drainOrder (Config.drainPlace s.draws) s.count).Nodup ∧
        ∀ h ∈ drainOrder (Config.drainPlace s.draws) s.count, h < s.count :=
      ⟨hperm.nodup_iff.2 List.nodup_range, fun h hh => List.mem_range.1 (hperm.mem_iff.1 hh)⟩
    exact MailSound.of_settled hsame { hm with pending := hpending }
  | skipped _ hp hsame =>
    rw [hp] at hm
    exact MailSound.of_settled hsame hm.visited
  | @applied h _ _ _ hp _ hsame =>
    rw [hp] at hm
    exact MailSound.of_settled hsame (hm.visited.taken h)

/-! ### The invariant after a micro-step -/

theorem State.Inv.mail {s : State} (hi : s.Inv) : MailSound s.count s.sm s.pend := ⟨hi.boxes, hi.letters, hi.pending⟩

theorem State.Inv.tidy {s : State} (hi : s.Inv) : s.Tidy := ⟨hi.buffers, hi.exchangeStep, hi.quiet⟩

/-- No micro-step goes with the state SETUP. -/
theorem PositionSound.st_ne_setup {s : State} (p : PositionSound s) : s.st ≠ .setup := by
  have h := p.state
  intro hst
  rw [hst] at h
  cases hl : s.mpc <;> simp [hl, stateAgrees, Label.owner] at h

theorem keys_of_addresses {s t : State} (h : t.devs.map RegisterSet.addresses = s.devs.map RegisterSet.addresses) :
    t.devs.map (·.pollAddress) = s.devs.map (·.pollAddress) := by
  simpa [RegisterSet.addresses, Function.comp_def] using congrArg (List.map (·.2.1)) h

theorem microStep_inv {s : State} (hi : s.Inv) (hr : s.phase = .run) :
    Ensures (microStep s) fun t => t.Inv ∧ t.params = s.params := by
  intro t ht
  have haddr := microStep_addresses s t ht
  have hcount : t.count = s.count := count_of_addresses haddr
  have hrun : t.phase = .run := (microStep_phase s t ht).trans hr
  have hposition := microStep_position hi hr t ht
  have htidy := microStep_tidy hi.tidy t ht
  obtain ⟨hmail, hparams⟩ := microStep_mail hi.mail t ht
  rw [← hcount] at hmail
  exact ⟨{ hmail, htidy with
    size := hcount ▸ hi.size
    sets := microStep_sets hi t ht
    keys := keys_of_addresses haddr ▸ hi.keys
    phases := by simp [hrun, hposition.st_ne_setup]
    started := fun _ => by
      have hpos : 0 < s.count := List.length_pos_iff.2 (hi.started hr)
      exact List.length_pos_iff.1 (hcount.symm ▸ hpos : 0 < t.count)
    silent := by simp [hrun]
    position := fun _ => hposition }, hparams⟩

/-! ### The invariant after a host command -/

theorem newRegisterSet_sound {dev poll : Byte} (reg : Byte) (k : Nat) (hslot : slotOk dev = true)
    (hparity : parityOk poll = true) : (newRegisterSet dev poll reg k).Sound :=
  ⟨hslot, hparity, selectorOk_selectorByte _, dipByte_cases _⟩

/-- A registration that the checks let pass (R280, R281). -/
theorem inv_register {s : State} (hi : s.Inv) {d : RegisterSet} (hd : d.Sound) (hphase : s.phase = .setup)
    (hroom : s.count ≠ Config.nDevMax) (hnew : ∀ e ∈ s.devs, e.pollAddress ≠ d.pollAddress) :
    (register d s).Inv := by
  have hcount : (register d s).count = s.count + 1 := by simp [register, State.count]
  exact { hi with
    boxes := by simp [register, State.count, hi.boxes]
    size := hcount ▸ Nat.lt_of_le_of_ne hi.size hroom
    sets := fun e he => by
      obtain he | he := List.mem_append.1 he
      · exact hi.sets e he
      · rw [List.mem_singleton.1 he]
        exact hd
    keys := by
      simp only [register, List.map_append, List.map_cons, List.map_nil]
      exact List.nodup_append.2 ⟨hi.keys, List.nodup_singleton _, by simpa using hnew⟩
    letters := fun v hv => by
      obtain hv | hv := List.mem_append.1 hv
      · exact hi.letters v hv
      · simp at hv
    started := fun hr => by simp [register, hphase] at hr
    pending := ⟨hi.pending.1, fun h hh => hcount ▸ Nat.lt_succ_of_lt (hi.pending.2 h hh)⟩
    position := fun hr => by simp [register, hphase] at hr }

/-- START (R282). -/
theorem inv_enterRun {s : State} (hi : s.Inv) (hcount : s.count ≠ 0) : (enterRun s).Inv :=
  { hi with
    phases := by simp [enterRun, Label.entryState]
    started := fun _ => by
      simpa [enterRun, State.count] using hcount
    silent := by simp [enterRun]
    position := fun _ => positionSound_of_idle rfl rfl rfl }

/-- A try-send of a legal word (R285, R287). -/
theorem inv_sendSettingsTo {s : State} (hi : s.Inv) {v : Settings} (hv : settingsOk v = true) (h : Nat) :
    (sendSettingsTo h v s).Inv :=
  { hi with
    boxes := by simp [sendSettingsTo, State.count, hi.boxes]
    letters := fun w hw => by
      obtain ⟨i, hget⟩ := List.mem_iff_getElem?.1 hw
      rw [sendSettingsTo_sm, List.getElem?_modify] at hget
      obtain ⟨slot, hslot, hget⟩ := Option.map_eq_some_iff.1 hget
      have hor : some w = slot ∨ w = v := by
        split_ifs at hget
        · cases slot with
          | none => exact .inr (Option.some.inj hget).symm
          | some x => exact .inl hget.symm
        · exact .inl hget.symm
      obtain rfl | rfl := hor
      · exact hi.letters w (List.mem_of_getElem? hslot)
      · exact hv
    position := fun hr => { hi.position hr with } }

/-- RECEIVE_READINGS empties the readings mailbox (R291). -/
theorem inv_takeReadings {s : State} (hi : s.Inv) : (takeReadings s).Inv :=
  { hi with
    silent := fun _ => rfl
    position := fun hr => { hi.position hr with } }

/-- Every host command keeps the invariant and the parameters. -/
theorem HostEffect.inv {s t : State} (e : HostEffect s t) (hi : s.Inv) : t.Inv ∧ t.params = s.params := by
  cases e with
  | @registered dev poll reg hpass =>
    obtain ⟨hphase, hroom, hslot, hparity, hnew⟩ := (registrationRefusal_eq_none_iff dev poll s).1 hpass
    have hsound := newRegisterSet_sound reg s.draws hslot hparity
    exact ⟨(inv_register hi hsound hphase hroom hnew).of_environment rfl, rfl⟩
  | started _ hcount => exact ⟨(inv_enterRun hi hcount).of_environment rfl, rfl⟩
  | sent h hlegal => exact ⟨(inv_sendSettingsTo hi hlegal h).of_environment rfl, rfl⟩
  | received => exact ⟨(inv_takeReadings hi).of_environment rfl, rfl⟩

/-! ### The invariant after a step -/

/-- Settles O55: a host agent's step runs one of the four commands or nothing, the engine's one micro-step or nothing,
and the invariant does not bear on whose turn is next. -/
theorem stepKeepsInvariant : Obligations.StepKeepsInvariant := by
  intro s t hi hstep
  cases ht : s.turn with
  | host =>
    obtain ⟨q, k, rfl | ⟨w, i, v, hw, hv, rfl⟩⟩ := step_host_cases ht hstep
    · exact ⟨hi.of_environment rfl, rfl⟩
    · obtain ⟨hinv, hparams⟩ := (exec_host_effect hw hv).inv (hi.of_environment rfl)
      exact ⟨hinv.of_environment rfl, hparams⟩
  | engine =>
    obtain ⟨-, rfl⟩ | ⟨hr, u, hu, rfl⟩ := step_engine_cases hi ht hstep
    · exact ⟨hi.of_environment rfl, rfl⟩
    · obtain ⟨hinv, hparams⟩ := microStep_inv hi hr u hu
      exact ⟨hinv.of_environment rfl, hparams⟩

/-- Settles O54: at power-up there is no register set, no mailbox and no pending handle, and the phase is SETUP. -/
theorem resetMeetsInvariant : Obligations.ResetMeetsInvariant := by
  refine ⟨?_, rfl, rfl⟩
  constructor
  case size => exact Nat.zero_le _
  case position => exact nofun
  case started => exact nofun
  all_goals simp [State.reset, State.count]

end Sys2Proof.Machine
end

section
/-! PROOFS. What a step runs, and that the engine never stops (00_scope.md section 4; 42_engine.md R199, R211;
70_reset_and_hazards.md R344). -/

namespace Sys2Proof.Machine

/-! ### No micro-step of a sound state faults -/

/-- The outcome has a next state: no fault, no refusal. -/
def Proceeds (o : Out) : Prop := ∃ t, o = .next t

theorem proceeds_next (s : State) : Proceeds (.next s) := ⟨s, rfl⟩

theorem proceeds_withDev {s : State} {h : Nat} {k : RegisterSet → Out} (hh : h < s.count)
    (hk : ∀ d, s.devs[h]? = some d → Proceeds (k d)) : Proceeds (withDev s h k) := by
  have hd : s.devs[h]? = some s.devs[h] := List.getElem?_eq_getElem hh
  rw [withDev_of_some hd]
  exact hk _ hd

theorem proceeds_withPollEntry {s : State} {k : Byte → Out} (hpi : s.pi < 8) (hk : ∀ a, Proceeds (k a)) :
    Proceeds (withPollEntry s k) := by
  have ha : pollList[s.pi]? = some pollList[s.pi] := List.getElem?_eq_getElem hpi
  rw [withPollEntry_of_some ha]
  exact hk _

theorem proceeds_andThen (c : Checked) (k : State → State) : Proceeds (c.andThen k) := by
  cases c with
  | ok u => exact ⟨k u, rfl⟩
  | abort u => exact ⟨raiseAbort u, rfl⟩

/-- E02: a pending handle has a register set and a mailbox. -/
theorem proceeds_microDrain {s : State} (hi : s.Inv) : Proceeds (microDrain s) := by
  unfold microDrain
  split
  · exact proceeds_next _
  · next h rest hp =>
    have hh : h < s.count := hi.pending.2 h (by simp [hp])
    have hv : s.sm[h]? = some (s.sm[h]'(hi.boxes ▸ hh)) := List.getElem?_eq_getElem _
    refine proceeds_withDev hh fun d _ => ?_
    rw [hv]
    exact proceeds_next _

/-- X17: the slot's triple lies within the frame. -/
theorem proceeds_microPatch {s : State} (hi : s.Inv) (hhdl : s.hdl < s.count) : Proceeds (microPatch s) := by
  have hd : s.devs[s.hdl]? = some s.devs[s.hdl] := List.getElem?_eq_getElem hhdl
  obtain ⟨hslot, -⟩ := hi.sets _ (List.mem_of_getElem? hd)
  have hoff := (slotOffset_of_slotOk hslot).2
  simp only [List.mem_cons, List.not_mem_nil, or_false] at hoff
  rw [microPatch_eq hd hi.buffers.1 (by omega)]
  exact proceeds_next _

/-- In a sound state of the run phase every micro-step has a next state. -/
theorem proceeds_microStep {s : State} (hi : s.Inv) (hr : s.phase = .run) : Proceeds (microStep s) := by
  have p := hi.position hr
  have hcur (hl : s.mpc.idle = false) : s.cur < s.count := p.cur hl
  have hhdl (hl : s.mpc.inDataExchange = true ∨ s.mpc = .e41 ∨ s.mpc.polling = true) : s.hdl < s.count := p.hdl hl
  have hpi (hl : s.mpc.polling = true) : s.pi < 8 := p.index.2 hl
  unfold microStep
  cases h : s.mpc with
  | e02 => exact proceeds_microDrain hi
  | e20 | e40 => exact proceeds_withDev (hcur (by rw [h]; rfl)) fun _ _ => proceeds_next _
  | e21 => exact proceeds_withDev (hcur (by rw [h]; rfl)) fun _ _ => proceeds_andThen _ _
  | e41 =>
    change Proceeds (microPollNext s)
    unfold microPollNext
    split_ifs with hend
    · exact proceeds_next _
    · exact proceeds_withPollEntry (Nat.lt_of_le_of_ne (p.index.1 h) hend) fun _ => proceeds_next _
  | e42 => exact proceeds_withPollEntry (hpi (by rw [h]; rfl)) fun _ => proceeds_next _
  | e43 =>
    refine proceeds_withPollEntry (hpi (by rw [h]; rfl)) fun a =>
      proceeds_withDev (hhdl (by rw [h]; decide)) fun d _ => ?_
    split <;> exact proceeds_next _
  | e46 | x04 | x11 => exact proceeds_withDev (hhdl (by rw [h]; decide)) fun _ _ => proceeds_next _
  | x07 =>
    refine proceeds_withDev (hhdl (by rw [h]; decide)) fun _ _ => ?_
    rw [if_neg (by rw [p.status h]; decide)]
    exact proceeds_next _
  | x17 => exact proceeds_microPatch hi (hhdl (by rw [h]; decide))
  | e47 | x03 | x05 | x06 | x10 | x12 | x13 | x16 | x19 => exact proceeds_andThen _ _
  | _ => exact proceeds_next _

/-! ### The engine's turn -/

/-- In a sound position the row that the engine runs is the micro-step at its label. -/
theorem exec_engineInstr {s : State} (hr : s.phase = .run) (p : PositionSound s) :
    exec (engineInstr s) s = microStep s :=
  (exec_stateRow hr (mem_stateLabels_owner s.mpc s.st)).trans (by rw [jump_mpc_self p.state])

theorem step_engine_setup {s : State} (ht : s.turn = .engine) (hp : s.phase = .setup) :
    step s = .next (nextTurn s) := by
  simp [step, fetch, ht, hp]

theorem step_engine_row {s : State} (ht : s.turn = .engine) (hr : s.phase = .run) :
    step s = afterExec (exec (engineInstr s) s) := by
  simp [step, fetch, ht, hr]

/-- At the engine's turn a sound state has a next, sound state. -/
theorem step_engine_proceeds {s : State} (hi : s.Inv) (ht : s.turn = .engine) : ∃ t, step s = .next t ∧ t.Inv := by
  have hnext : ∃ t, step s = .next t := by
    cases hp : s.phase with
    | setup => exact ⟨_, step_engine_setup ht hp⟩
    | run =>
      obtain ⟨u, hu⟩ := proceeds_microStep hi hp
      exact ⟨nextTurn u, by rw [step_engine_row ht hp, exec_engineInstr hp (hi.position hp), hu, afterExec]⟩
  obtain ⟨t, h⟩ := hnext
  exact ⟨t, h, (stepKeepsInvariant s t hi h).1⟩

/-! ### The host agents' turns -/

/-- A host command leaves the number of turns as it is. -/
theorem HostEffect.hostTurns {s t : State} (e : HostEffect s t) : t.hostTurns = s.hostTurns := by
  cases e <;> rfl

/-- Every step at a host's turn leaves one host turn fewer. -/
theorem step_host_hostTurns {s t : State} (ht : s.turn = .host) (h : step s = .next t) :
    t.hostTurns + 1 = s.hostTurns := by
  have hpos := turn_host_iff.1 ht
  obtain ⟨q, k, rfl | ⟨w, i, v, hw, hv, rfl⟩⟩ := step_host_cases ht h
  · simp [hpos.ne']
    omega
  · have hsame : v.hostTurns = s.hostTurns :=
      (exec_host_effect hw hv).hostTurns
    simp [hsame, hpos.ne']
    omega

/-- As many steps as there are host turns left bring a sound state to the engine's turn. -/
theorem runSteps_hostTurns {s t : State} {n : Nat} (hi : s.Inv) (hn : s.hostTurns = n) (h : runSteps n s = .next t) :
    t.turn = .engine ∧ t.Inv := by
  induction n generalizing s with
  | zero =>
    cases h
    exact ⟨turn_engine_iff.2 hn, hi⟩
  | succ n ih =>
    have ht : s.turn = .host := turn_host_iff.2 (hn ▸ Nat.succ_pos n)
    cases hs : step s with
    | next u =>
      rw [runSteps, hs] at h
      have hu := step_host_hostTurns ht hs
      exact ih (stepKeepsInvariant s u hi hs).1 (by omega) h
    | fault f => simp [runSteps, hs] at h
    | refused r => simp [runSteps, hs] at h

/-- Settles O56: no micro-step of a sound state faults, and the host turns are used up one by one. -/
theorem engineNeverStops : Obligations.EngineNeverStops := by
  intro s hi
  refine ⟨step_engine_proceeds hi, fun t h => ?_⟩
  obtain ⟨ht, hinv⟩ := runSteps_hostTurns hi rfl h
  exact ⟨ht, step_engine_proceeds hinv ht⟩

/-- Settles O44: the fetch finds the word held ready, or the row of the sequencer's position. -/
theorem stepRunsFetchedInstruction : Obligations.StepRunsFetchedInstruction := by
  refine ⟨fun s t h ht => step_host_hostTurns ht h, fun s w q i ht hq hi => step_host_ok ht hq hi, fun s ht => ?_⟩
  refine ⟨step_engine_row ht, exec_engineInstr, fun hp => ⟨Config.hostTurns s.draws, ?_⟩⟩
  rw [step_engine_setup ht hp, nextTurn_engine ht]
  rfl

end Sys2Proof.Machine
end

section
/-! PROOFS. The CRC (40_codec.md R160 to R162): the left-shifting division it reflects, and its linearity. -/

namespace Sys2Proof.Machine

open Sys2Proof.Claims

/-! ### Reflection (R160, R161) -/

theorem reverse_xor {w : Nat} (x y : BitVec w) : (x ^^^ y).reverse = x.reverse ^^^ y.reverse :=
  BitVec.eq_of_getLsbD_eq fun i hi => by simp [BitVec.getLsbD_reverse, BitVec.getMsbD_xor]

theorem reverse_shiftLeft {w : Nat} (x : BitVec w) (n : Nat) : (x <<< n).reverse = x.reverse >>> n :=
  BitVec.eq_of_getLsbD_eq fun i hi => by
    rw [BitVec.getLsbD_reverse, BitVec.getMsbD_shiftLeft, BitVec.getLsbD_ushiftRight, BitVec.getLsbD_reverse,
      Nat.add_comm]

/-- The top byte, reflected, is the bottom byte reflected. -/
theorem reverse_reflected_byte (b : Byte) : (b.reverse.setWidth 16 <<< 8).reverse = b.setWidth 16 := by
  rw [reverse_shiftLeft]
  refine BitVec.eq_of_getLsbD_eq fun i hi => ?_
  rw [BitVec.getLsbD_ushiftRight, BitVec.getLsbD_reverse, BitVec.getMsbD_setWidth]
  simp [BitVec.getMsbD_reverse, hi]

/-- A shift to the right with 0x8408 is a shift to the left with 0x1021, reflected (R161). -/
theorem crcShift_reverse (c : Crc) : crcShift c.reverse = (leftShift c).reverse := by
  have hbit : c.reverse.getLsbD 0 = c.getLsbD 15 := by
    rw [BitVec.getLsbD_reverse, BitVec.getMsbD]
    simp
  unfold crcShift leftShift
  rw [hbit]
  split
  · rw [reverse_xor, reverse_shiftLeft]
    rfl
  · rw [reverse_shiftLeft]

theorem repeat_crcShift_reverse (n : Nat) (c : Crc) :
    Nat.repeat crcShift n c.reverse = (Nat.repeat leftShift n c).reverse := by
  induction n with
  | zero => rfl
  | succ n ih => rw [Nat.repeat, ih, crcShift_reverse, Nat.repeat]

theorem crcByte_reverse (c : Crc) (b : Byte) : crcByte c.reverse b = (leftByte c b).reverse := by
  rw [crcByte, ← reverse_reflected_byte, ← reverse_xor, repeat_crcShift_reverse, leftByte]

theorem crcFrom_reverse (bytes : Bytes) (c : Crc) : crcFrom c.reverse bytes = (bytes.foldl leftByte c).reverse := by
  induction bytes generalizing c with
  | nil => rfl
  | cons b bytes ih =>
    rw [crcFrom, List.foldl_cons, crcByte_reverse]
    exact ih (leftByte c b)

/-- Settles O1: the registers of the two divisions are each other's reflections after every byte. -/
theorem crcIsReflectedDivision : Obligations.CrcIsReflectedDivision :=
  ⟨fun s => crcFrom_reverse s 0#16, by decide +kernel⟩

/-! ### Linearity and the residue (R162) -/

/-- The polynomial that a shift adds for the bit that goes out (R161). -/
def crcFeedback (out : Bool) : Crc := if out then 0x8408#16 else 0#16

theorem crcShift_eq (c : Crc) : crcShift c = c >>> 1 ^^^ crcFeedback (c.getLsbD 0) := by
  unfold crcShift crcFeedback
  split <;> simp

theorem crcFeedback_xor (x y : Bool) : crcFeedback (x ^^ y) = crcFeedback x ^^^ crcFeedback y := by
  cases x <;> cases y <;> decide

theorem crcShift_xor (a b : Crc) : crcShift (a ^^^ b) = crcShift a ^^^ crcShift b := by
  rw [crcShift_eq, crcShift_eq, crcShift_eq, BitVec.ushiftRight_xor_distrib, BitVec.getLsbD_xor, crcFeedback_xor]
  ac_rfl

theorem repeat_crcShift_xor (n : Nat) (a b : Crc) :
    Nat.repeat crcShift n (a ^^^ b) = Nat.repeat crcShift n a ^^^ Nat.repeat crcShift n b := by
  induction n with
  | zero => rfl
  | succ n ih => rw [Nat.repeat, ih, crcShift_xor, Nat.repeat, Nat.repeat]

theorem crcByte_xor (c d : Crc) (a b : Byte) : crcByte (c ^^^ d) (a ^^^ b) = crcByte c a ^^^ crcByte d b := by
  have hregroup : (c ^^^ d) ^^^ (a ^^^ b).setWidth 16 = (c ^^^ a.setWidth 16) ^^^ (d ^^^ b.setWidth 16) := by
    rw [BitVec.setWidth_xor]
    ac_rfl
  rw [crcByte, hregroup, repeat_crcShift_xor, crcByte, crcByte]

theorem crcFrom_xor {a b : Bytes} (h : a.length = b.length) (c d : Crc) :
    crcFrom (c ^^^ d) (List.zipWith (· ^^^ ·) a b) = crcFrom c a ^^^ crcFrom d b := by
  induction a generalizing b c d with
  | nil =>
    obtain rfl := List.length_eq_zero_iff.1 h.symm
    rfl
  | cons x a ih =>
    cases b with
    | nil => cases h
    | cons y b =>
      rw [List.zipWith_cons_cons, crcFrom, List.foldl_cons, crcByte_xor]
      exact ih (Nat.succ.inj h) _ _

theorem crcFrom_append (c : Crc) (a b : Bytes) : crcFrom c (a ++ b) = crcFrom (crcFrom c a) b :=
  List.foldl_append

/-- Leading zeros leave the register 0 (R162). -/
theorem crc16k_zeros_append (k : Nat) (s : Bytes) : crc16k (List.replicate k 0x00#8 ++ s) = crc16k s := by
  induction k with
  | zero => rfl
  | succ k ih => exact ih

/-- As long as zeros go out, nothing is divided out. -/
theorem repeat_crcShift_of_zeros {c : Crc} {n : Nat} (h : ∀ i < n, c.getLsbD i = false) :
    Nat.repeat crcShift n c = c >>> n := by
  induction n with
  | zero => simp [Nat.repeat]
  | succ n ih =>
    have hout : (c >>> n).getLsbD 0 = false := by simpa using h n (Nat.lt_succ_self n)
    rw [Nat.repeat, ih fun i hi => h i (Nat.lt_succ_of_lt hi), crcShift, hout, BitVec.shiftRight_add]
    rfl

/-- The register's own low byte cancels it, and what is left is its high byte. -/
theorem crcByte_lo8 (c : Crc) : crcByte c (lo8 c) = (hi8 c).setWidth 16 := by
  have hout : ∀ i < 8, (c ^^^ (lo8 c).setWidth 16).getLsbD i = false := by
    intro i hi
    simp [lo8, hi, Nat.lt_trans hi (by decide : 8 < 16)]
  rw [crcByte, repeat_crcShift_of_zeros hout]
  refine BitVec.eq_of_getLsbD_eq fun i hi => ?_
  rw [BitVec.getLsbD_ushiftRight, BitVec.getLsbD_xor]
  simp only [lo8, hi8, BitVec.getLsbD_setWidth, BitVec.getLsbD_extractLsb']
  have hlt : c.getLsbD (8 + i) = true → 8 + i < 16 := BitVec.lt_of_getLsbD
  grind

theorem crcByte_self (b : Byte) : crcByte (b.setWidth 16) b = 0#16 := by
  rw [crcByte, BitVec.xor_self]
  decide

/-- The register's two bytes, low byte first, cancel it. -/
theorem crcFrom_own_bytes (c : Crc) : crcFrom c [lo8 c, hi8 c] = 0#16 := by
  rw [crcFrom, List.foldl_cons, List.foldl_cons, List.foldl_nil, crcByte_lo8, crcByte_self]

/-- Settles O2: a shift is linear, so the register is; and the register's own bytes cancel it. -/
theorem crcLinearWithZeroResidue : Obligations.CrcLinearWithZeroResidue := by
  refine ⟨rfl, crc16k_zeros_append, fun a b h => ?_, fun s => ?_⟩
  · exact crcFrom_xor h 0#16 0#16
  · rw [crc16k, crcFrom_append]
    exact crcFrom_own_bytes _

end Sys2Proof.Machine
end

section
/-! PROOFS. Decoding what was encoded (30_encoding.md sections 2 to 7). -/

namespace Sys2Proof.Machine

open Sys2Proof.Claims

/-! ### Host command words (R126) -/

section HostWord

variable (cmd : BitVec 4) (handle : Byte) (arg : BitVec 32)

theorem hostWord_cmd : (hostWord cmd handle arg).extractLsb' 60 4 = cmd :=
  extractLsb'_append_high (w := 60) (by decide) BitVec.extractLsb'_eq_self

theorem hostWord_upper : (hostWord cmd handle arg).extractLsb' 48 12 = 0#12 :=
  extractLsb'_append_low (v := 4) (by decide) <|
    extractLsb'_append_high (w := 48) (by decide) BitVec.extractLsb'_eq_self

theorem hostWord_handle : (hostWord cmd handle arg).extractLsb' 40 8 = handle :=
  extractLsb'_append_low (v := 4) (by decide) <| extractLsb'_append_low (v := 12) (by decide) <|
    extractLsb'_append_high (w := 40) (by decide) BitVec.extractLsb'_eq_self

theorem hostWord_middle : (hostWord cmd handle arg).extractLsb' 32 8 = 0#8 :=
  extractLsb'_append_low (v := 4) (by decide) <| extractLsb'_append_low (v := 12) (by decide) <|
    extractLsb'_append_low (v := 8) (by decide) <|
      extractLsb'_append_high (w := 32) (by decide) BitVec.extractLsb'_eq_self

theorem hostWord_arg : (hostWord cmd handle arg).extractLsb' 0 32 = arg :=
  extractLsb'_append_low (v := 4) (by decide) <| extractLsb'_append_low (v := 12) (by decide) <|
    extractLsb'_append_low (v := 8) (by decide) <| extractLsb'_append_low (v := 8) (by decide)
      BitVec.extractLsb'_eq_self

end HostWord

theorem decodeHost_addInstance (d p r : Byte) :
    decodeHost (hostWord 0x1#4 0#8 (0#8 ++ (d ++ (p ++ r)))) = .ok (.addInstance d p r) := by
  have h0 : (0#8 ++ (d ++ (p ++ r))).extractLsb' 24 8 = 0#8 :=
    extractLsb'_append_high (w := 24) (by decide) BitVec.extractLsb'_eq_self
  have hd : (0#8 ++ (d ++ (p ++ r))).extractLsb' 16 8 = d :=
    extractLsb'_append_low (v := 8) (by decide) <|
      extractLsb'_append_high (w := 16) (by decide) BitVec.extractLsb'_eq_self
  have hp : (0#8 ++ (d ++ (p ++ r))).extractLsb' 8 8 = p :=
    extractLsb'_append_low (v := 8) (by decide) <| extractLsb'_append_low (v := 8) (by decide) <|
      extractLsb'_append_high (w := 8) (by decide) BitVec.extractLsb'_eq_self
  have hr : (0#8 ++ (d ++ (p ++ r))).extractLsb' 0 8 = r :=
    extractLsb'_append_low (v := 8) (by decide) <| extractLsb'_append_low (v := 8) (by decide) <|
      extractLsb'_append_low (v := 8) (by decide) BitVec.extractLsb'_eq_self
  simp only [decodeHost, hostWord_cmd, hostWord_upper, hostWord_handle, hostWord_middle, hostWord_arg, h0, hd, hp, hr]
  rfl

theorem decodeHost_start : decodeHost (hostWord 0x2#4 0#8 0#32) = .ok .start := by decide

theorem decodeHost_receiveReadings : decodeHost (hostWord 0x4#4 0#8 0#32) = .ok .receiveReadings := by decide

theorem decodeHost_hostWord_sendSettings (h : Byte) (v : Settings) :
    decodeHost (hostWord 0x3#4 h v) = .ok (.sendSettings h v) := by
  rw [decodeHost_sendSettings (hostWord_cmd _ h v) (hostWord_upper _ h v) (hostWord_middle _ h v),
    hostWord_handle, hostWord_arg]

/-! ### Messages (R112) -/

theorem verifyMessage_envelope_of_length {body : Bytes} {n : Nat} (h : body.length + 4 = n) :
    verifyMessage (envelope body) n = true :=
  h ▸ verifyMessage_envelope body

/-- The envelope's bytes as the rules number them: byte 0, the front of the body, the rest of it, and the tail. -/
theorem take_envelope_append (front rest : Bytes) :
    (envelope (front ++ rest)).take (front.length + 1) = startByte :: front := by
  simp [envelope]

theorem memRead_envelope_append (front rest : Bytes) :
    memRead (envelope (front ++ rest)) (front.length + 1) rest.length = rest := by
  simp [memRead, envelope]

/-- A message is decoded to its bytes between the header and the CRC field. -/
theorem decodeMessage_envelope {front payload : Bytes} {n : Nat} (hfront : front.length = 4)
    (hn : payload.length + 8 = n) :
    decodeMessage (envelope (front ++ payload)) n (startByte :: front) = .ok payload := by
  have hlen : (envelope (front ++ payload)).length = n := by simp; omega
  have hverify : verifyMessage (envelope (front ++ payload)) n = true :=
    verifyMessage_envelope_of_length (by simp; omega)
  have htake := take_envelope_append front payload
  have hread := memRead_envelope_append front payload
  rw [hfront] at htake hread
  have hrange : n - 8 = payload.length := by omega
  simp [decodeMessage, hlen, hverify, htake, hrange, hread]

theorem decodeTx_cmdStatus (d : Byte) :
    decodeTx .dataExchange (cmdStatusBytes d) .space = .ok (.cmdStatus d) := by
  have hlen : (cmdStatusBytes d).length = 9 := by simp [cmdStatusBytes]
  have hverify : verifyMessage (cmdStatusBytes d) 9 = true := verifyMessage_envelope_of_length rfl
  have hread : memRead (cmdStatusBytes d) 2 4 = [0x10#8, 0x01#8, 0x02#8, 0x10#8] := rfl
  have hget : (cmdStatusBytes d).getD 1 0x00#8 = d := rfl
  simp only [decodeTx, hlen, decodeCommand, hverify, hread, hget]
  rfl

theorem decodeTx_cmdConfig (d : Byte) :
    decodeTx .dataExchange (cmdConfigBytes d) .space = .ok (.cmdConfig d) := by
  have hlen : (cmdConfigBytes d).length = 9 := by simp [cmdConfigBytes]
  have hverify : verifyMessage (cmdConfigBytes d) 9 = true := verifyMessage_envelope_of_length rfl
  have hread : memRead (cmdConfigBytes d) 2 4 = [0x10#8, 0x01#8, 0x06#8, 0x28#8] := rfl
  have hget : (cmdConfigBytes d).getD 1 0x00#8 = d := rfl
  simp only [decodeTx, hlen, decodeCommand, hverify, hread, hget]
  rfl

theorem decodeTx_configWrite (d : Byte) {payload : Bytes} (h : payload.length = 40) :
    decodeTx .dataExchange (configWriteBytes d payload) .space = .ok (.configWrite d payload) := by
  have hlen : (configWriteBytes d payload).length = 48 := by simp [configWriteBytes, h]
  have hverify : verifyMessage (configWriteBytes d payload) 48 = true :=
    verifyMessage_envelope_of_length (by simp [h])
  have hfixed : memRead (configWriteBytes d payload) 2 3 = [0x20#8, 0x28#8, 0x06#8] := rfl
  have hpayload : memRead (configWriteBytes d payload) 5 40 = payload :=
    h ▸ memRead_envelope_append [d, 0x20#8, 0x28#8, 0x06#8] payload
  have hget : (configWriteBytes d payload).getD 1 0x00#8 = d := rfl
  simp only [decodeTx, hlen, decodeConfigWrite, hverify, hfixed, hpayload, hget]
  rfl

theorem decodeTx_pollReply {body : Bytes} (h : body.length = 5) :
    decodeTx .pollSiblings (pollReplyBytes body) .space = .ok (.pollReply body) := by
  have hlen : (pollReplyBytes body).length = 9 := by simp [pollReplyBytes, h]
  have hverify : verifyMessage (pollReplyBytes body) 9 = true := verifyMessage_envelope_of_length (by rw [h])
  have hread : memRead (pollReplyBytes body) 1 5 = body := h ▸ memRead_envelope body
  simp only [decodeTx, hlen, hverify, hread]
  rfl

theorem decodeRx_hdrReply (f : Byte) : decodeRx .headerExchange (hdrReplyBytes f) = .ok (.hdrReply f) := by
  have hm : decodeMessage (hdrReplyBytes f) 9 hdrReplyHeader = .ok [f] := decodeMessage_envelope rfl rfl
  simp only [decodeRx, hm]
  rfl

theorem decodeRx_statusReply {payload : Bytes} (h : payload.length = 16) :
    decodeRx .dataExchange (statusReplyBytes payload) = .ok (.statusReply payload) := by
  have hlen : (statusReplyBytes payload).length = 24 := by simp [statusReplyBytes, statusReplyHeader, h]
  have hm : decodeMessage (statusReplyBytes payload) 24 statusReplyHeader = .ok payload :=
    decodeMessage_envelope rfl (by rw [h])
  simp only [decodeRx, hlen, hm]
  rfl

theorem decodeRx_configReply {payload : Bytes} (h : payload.length = 40) :
    decodeRx .dataExchange (configReplyBytes payload) = .ok (.configReply payload) := by
  have hlen : (configReplyBytes payload).length = 48 := by simp [configReplyBytes, configReplyHeader, h]
  have hm : decodeMessage (configReplyBytes payload) 48 configReplyHeader = .ok payload :=
    decodeMessage_envelope rfl (by rw [h])
  simp only [decodeRx, hlen, hm]
  rfl

/-- Settles O57: each row of the encoder is read back by the decoder's arm for its port, direction and state; a row of
format `internal` has no word. -/
theorem decodeOfEncodeAgrees : Obligations.DecodeOfEncodeAgrees := by
  intro i w hwf henc
  cases i with
  | addInstance d p r => cases henc; exact decodeHost_addInstance d p r
  | start => cases henc; exact decodeHost_start
  | sendSettings h v => cases henc; exact decodeHost_hostWord_sendSettings h v
  | receiveReadings => cases henc; exact decodeHost_receiveReadings
  | pollTx a =>
    cases henc
    exact if_pos hwf
  | hsAck | hsPoll | hdrAck | pollRx | ack1 | ack2 => cases henc; rfl
  | cmdStatus d => cases henc; exact decodeTx_cmdStatus d
  | cmdConfig d => cases henc; exact decodeTx_cmdConfig d
  | configWrite d payload =>
    cases henc
    simp only [Instr.wellFormed, Bool.and_eq_true, beq_iff_eq] at hwf
    exact decodeTx_configWrite d hwf.2
  | pollReply body => cases henc; exact decodeTx_pollReply (beq_iff_eq.1 hwf)
  | hdrReply f => cases henc; exact decodeRx_hdrReply f
  | statusReply payload => cases henc; exact decodeRx_statusReply (beq_iff_eq.1 hwf)
  | configReply payload => cases henc; exact decodeRx_configReply (beq_iff_eq.1 hwf)
  | _ => cases henc

/-- Settles O58: the words are closed, and the decoder is run on each. -/
theorem writtenWordsDecode : Obligations.WrittenWordsDecode := by
  refine ⟨by decide, by decide, by decide, by decide +kernel, by decide +kernel⟩

end Sys2Proof.Machine
end

section
/-! PROOFS. The half-degree codes (30_encoding.md R131, R132; 43_registry_mailboxes.md R290). -/

namespace Sys2Proof.Machine

/-- Settles O59: a byte holds `Enc(x)`, which is the floor of `2x + 1/2`. -/
theorem halfDegreeRoundTrip : Obligations.HalfDegreeRoundTrip := by
  refine ⟨fun x b h => ?_, by decide, by decide⟩
  have hdec : decodeSigned b = (halfDegrees x : ℚ) / 2 := by
    rw [decodeSigned, toInt_of_encodeDegrees h]
  have hle : (halfDegrees x : ℚ) ≤ 2 * x + 1 / 2 := Int.floor_le _
  have hlt : 2 * x + 1 / 2 < halfDegrees x + 1 := Int.lt_floor_add_one _
  rw [hdec]
  refine ⟨by linarith, by linarith, ?_⟩
  rintro ⟨k, hk⟩
  have hfloor : halfDegrees x = k := by
    rw [halfDegrees, hk, Int.floor_intCast_add]
    norm_num
  rw [hfloor, ← hk]
  ring

end Sys2Proof.Machine
end

section
/-! PROOFS. The transport port, the mailbox operations, the frames sent and the pseudo-operations
(41_transport.md R190, R193; 43_registry_mailboxes.md R285 to R288; 30_encoding.md R116 to R125, R140). -/

namespace Sys2Proof.Machine

open Sys2Proof.Claims

/-! ### TX and RX (R190, R193) -/

theorem txBurst_eq_afterTx (bytes : Bytes) (p : Parity) (s : State) : txBurst bytes p s = afterTx bytes p s := rfl

/-- Settles O10: TX is one burst, and the parity bit is that of the call. -/
theorem txEmitsBurst : Obligations.TxEmitsBurst := by
  intro bytes p s
  refine ⟨congrArg Host.Outcome.next (txBurst_eq_afterTx bytes p s), ?_⟩
  cases p <;> rfl

theorem exec_rx (n : Nat) (t : Tier) (s : State) :
    exec (.rx n t) s = .next (returning (.buffer (received n s)) (receive n t s)) := rfl

/-- Settles O11: RX is the receive, and the bytes are those of the environment's answer. -/
theorem rxReturnsAtMostN : Obligations.RxReturnsAtMostN := by
  intro n t s
  refine ⟨received n s, mayReturn_received n s, ?_⟩
  rw [exec_rx, receive_eq_afterRx]
  rfl

/-! ### TRY_SEND and TRY_RECV (R285, R286) -/

theorem exec_trySend_readings (v : Readings) (s : State) :
    exec (.trySend .readings v) s = .next { s with rm := slotSend s.rm v } := rfl

theorem exec_trySend_settings {s : State} {h : Nat} {slot : Option Settings} (hs : s.sm[h]? = some slot)
    (v : Settings) : exec (.trySend (.settings h) v) s = .next (sendSettingsTo h v s) := by
  obtain ⟨hlt, -⟩ := List.getElem?_eq_some_iff.1 hs
  exact if_neg hlt.not_ge

theorem exec_tryRecv_settings (h : Nat) (s : State) :
    exec (.tryRecv (.settings h)) s = execTryRecv (.settings h) s := rfl

/-- Settles O12: each slot by what it holds. -/
theorem mailboxesAreSingleSlots : Obligations.MailboxesAreSingleSlots := by
  intro v s
  refine ⟨fun hrm => ?_, fun w hrm => ?_, fun h hs => ?_, fun h w hs => ?_, rfl, fun h w hs => ?_⟩
  · rw [exec_trySend_readings, hrm, slotSend_none]
  · rw [exec_trySend_readings, hrm, slotSend_some, ← hrm]
  · rw [exec_trySend_settings hs, sendSettingsTo_of_empty hs]
  · rw [exec_trySend_settings hs, sendSettingsTo_of_full hs]
  · rw [exec_tryRecv_settings, execTryRecv, hs]
    rfl

/-! ### APPLY_SETTINGS (R288) -/

theorem exec_applySettings (h : Nat) (w : Settings) (s : State) :
    exec (.applySettings h w) s = execApplySettings h w s := rfl

/-- Settles O13: the register set exists, so the settings are applied to it. -/
theorem applySettingsWritesFourFields : Obligations.ApplySettingsWritesFourFields := by
  intro h w d s hd
  have hlt : h < s.count := (List.getElem?_eq_some_iff.1 hd).1
  rw [exec_applySettings, execApplySettings, if_neg hlt.not_ge, applySettingsTo_eq h w s d hd,
    applyToRegisters_eq_applied, settingsFlags_eq_appliedFlags]

/-! ### Operands that name nothing -/

/-- A message length whose CRC field would leave the buffer. -/
theorem buildMessage_of_long {body : Bytes} {n : Nat} (h : body.length + 5 < n) : buildMessage body n = none :=
  crcInsert_of_lt (by simp; omega)

theorem exec_sendMsg (body : Bytes) (n : Nat) (s : State) : exec (.sendMsg body n) s = execSendMsg body n s := rfl

/-- Settles O14: each lookup fails. -/
theorem operandsThatNameNothingAreRefused : Obligations.OperandsThatNameNothingAreRefused := by
  intro h v s
  refine ⟨fun hs => ⟨if_pos (List.getElem?_eq_none_iff.1 hs), ?_⟩,
    fun hd => if_pos (List.getElem?_eq_none_iff.1 hd), fun body n hn => ⟨?_, ?_⟩⟩
  · rw [exec_tryRecv_settings, execTryRecv, hs]
  · rw [exec_buildMessage, execBuildMessage, buildMessage_of_long hn]
  · rw [exec_sendMsg, execSendMsg, buildMessage_of_long hn]

/-! ### Frames sent (R116 to R125) -/

/-- A row of the statements' lists of micro-steps: the micro-step, the data-exchange step it opens, the next one. -/
def Label.row (l : Label) : Label × Option Nat × Label := (l, l.opensStep, l.following)

/-- An instruction that sends a frame from the micro-steps `labels`, none of which is followed by one that enters a
state, sends it as the statements say. -/
theorem sendsFrom_sendFrame {before s : State} {i : Instr} {bytes : Bytes} {p : Parity} (labels : List Label)
    (hexec : exec i s = .next (sendFrame labels bytes p before))
    (hbefore : before.phase = s.phase ∧ before.mpc = s.mpc ∧ before.dxStep = s.dxStep)
    (henter : ∀ l ∈ labels, l.following.entryState = none := by decide) :
    SendsFrom before i bytes p (labels.map Label.row) s := by
  obtain ⟨hphase, hmpc, hdx⟩ := hbefore
  have hrow {l : Label} {k : Option Nat} {l' : Label} :
      (l, k, l') ∈ labels.map Label.row ↔ l ∈ labels ∧ l.opensStep = k ∧ l.following = l' := by
    simp [Label.row]
  cases hstands : before.standsAt labels with
  | true =>
    have hat : s.phase = .run ∧ s.mpc ∈ labels := by
      simpa [State.standsAt, hphase, hmpc] using hstands
    refine ⟨s.mpc.opensStep.getD s.dxStep, s.mpc.following, ?_, fun l k l' hl _ hlabel => ?_, fun hno => ?_⟩
    · rw [hexec, sendFrame_pass _ _ _ _ hstands, advance_at (s := txBurst bytes p before) (hmpc : _ = s.mpc),
        henter _ hat.2, txBurst_dxStep, hdx]
      rfl
    · obtain ⟨-, rfl, rfl⟩ := hrow.1 hl
      subst hlabel
      exact ⟨rfl, rfl⟩
    · obtain hsetup | hno := hno
      · simp [hat.1] at hsetup
      · exact absurd rfl (hno _ _ _ (hrow.2 ⟨hat.2, rfl, rfl⟩))
  | false =>
    refine ⟨before.dxStep, before.mpc, ?_, fun l k l' hl hr hlabel => ?_, fun _ => ⟨hmpc, hdx⟩⟩
    · rw [hexec, sendFrame_stay _ _ _ _ hstands]
      rfl
    · have hin : s.mpc ∈ labels := hlabel ▸ (hrow.1 hl).1
      simp [State.standsAt, hphase, hmpc, hr, hin] at hstands

/-- Settles O23: each instruction sends one frame, from the micro-steps of its list. -/
theorem shortStringsSent : Obligations.ShortStringsSent :=
  ⟨fun _ _ => sendsFrom_sendFrame [.e42] rfl ⟨rfl, rfl, rfl⟩,
    fun _ => sendsFrom_sendFrame [.x01, .x08, .x14] rfl ⟨rfl, rfl, rfl⟩,
    fun _ => sendsFrom_sendFrame [.x02, .x09, .x15] rfl ⟨rfl, rfl, rfl⟩,
    fun _ _ => sendsFrom_sendFrame [.e20] rfl ⟨rfl, rfl, rfl⟩⟩

/-- What `TXB` may hold once a message is built (10_state.md R54). -/
theorem mayHold_buildFrame (bytes : Bytes) (s : State) : MayHold bytes (buildFrame bytes s).txb s :=
  fun hst => by rw [buildFrame_txb, if_pos hst]

theorem buildFrame_eq_afterBuild (bytes : Bytes) (s : State) :
    buildFrame bytes s = afterBuild (buildFrame bytes s).txb s := rfl

/-- An instruction that builds a message and sends it from the micro-steps `labels`. -/
theorem sendsMessage_sendMessage {i : Instr} {bytes : Bytes} (labels : List Label)
    (hexec : ∀ s, exec i s = .next (sendMessage labels bytes s))
    (henter : ∀ l ∈ labels, l.following.entryState = none := by decide) :
    SendsMessage i bytes (labels.map Label.row) :=
  fun s => ⟨(buildFrame bytes s).txb, mayHold_buildFrame bytes s,
    sendsFrom_sendFrame labels (hexec s) ⟨rfl, rfl, rfl⟩ henter⟩

theorem isMessage_envelope_of_length {body : Bytes} {n : Nat} (h : body.length + 4 = n) :
    IsMessage (envelope body) n :=
  h ▸ isMessage_envelope body

/-- The start byte and the body of a message. -/
theorem take_envelope (body : Bytes) : (envelope body).take (body.length + 1) = startByte :: body := by
  simpa using take_envelope_append body []

/-- Settles O24: each message is an envelope, sent from the micro-step that sends it. -/
theorem messagesSent : Obligations.MessagesSent := by
  refine ⟨fun d => ⟨cmdStatusBytes d, isMessage_envelope_of_length rfl, rfl, rfl,
      sendsMessage_sendMessage [.x04] fun _ => rfl⟩,
    fun d => ⟨cmdConfigBytes d, isMessage_envelope_of_length rfl, rfl, rfl,
      sendsMessage_sendMessage [.x11] fun _ => rfl⟩,
    fun d p hp => ⟨configWriteBytes d p, isMessage_envelope_of_length (by simp [hp]),
      by simp [configWriteBytes, hp], ?_,
      fun _ => sendsFrom_sendFrame [.x18] rfl ⟨rfl, rfl, rfl⟩⟩,
    fun b hb => ⟨pollReplyBytes b, isMessage_envelope_of_length (by rw [hb]), by simp [pollReplyBytes, hb], ?_,
      sendsMessage_sendMessage [.e46] fun _ => rfl⟩⟩
  · have htake := take_envelope ([d, 0x20#8, 0x28#8, 0x06#8] ++ p)
    have hlen : ([d, 0x20#8, 0x28#8, 0x06#8] ++ p).length + 1 = 45 := by simp [hp]
    rwa [hlen] at htake
  · have htake := take_envelope b
    rwa [hb] at htake

/-! ### Pseudo-operations (R140, 42_engine.md R222 to R224) -/

theorem exec_expectMsg (n : Nat) (header : Bytes) (s : State) :
    exec (.expectMsg n header) s =
      (expectMsg n header s).andThen fun t => returning (.buffer t.rxb) t := rfl

/-- An acknowledgement receive with nothing after it. -/
theorem expectAck_andThen_id (e : AckLen) (s : State) :
    (expectAck e s).andThen id =
      .next (if received (ackBytes e).length s = ackBytes e
        then afterRx (ackBytes e).length .long (received (ackBytes e).length s) s
        else aborting (afterRx (ackBytes e).length .long (received (ackBytes e).length s) s)) := by
  split_ifs with h
  · exact expectAck_andThen_of_ack h id
  · exact expectAck_andThen_of_other h id

/-- A message held ready is returned as it is. -/
theorem exec_expectMsg_held {n : Nat} {header r : Bytes} {q : List Bytes} {s : State} (hq : s.busIn = r :: q)
    (hlen : r.length = n) (hr : IsExpected r n header) :
    exec (.expectMsg n header) s =
      .next { s with busIn := q, rxb := r, events := .rx n .long r :: s.events, ret := .buffer r } := by
  have hreceived : received n s = r := by
    rw [(mayReturn_received n s).2 r q hq, List.take_of_length_le hlen.le]
  rw [exec_expectMsg, expectMsg_andThen_of_expected (hreceived.symm ▸ hr), hreceived]
  simp [afterRx, returning, hq]

/-- Settles O25: the two bursts write nothing that a receive looks at; each checked receive by what it returns. -/
theorem pseudoOperationsSendAndCheck : Obligations.PseudoOperationsSendAndCheck := by
  refine ⟨fun s => ?_, fun s => ?_, fun n header s => ?_, fun n header r q s => exec_expectMsg_held,
    fun body n s _ hlen => ?_⟩
  · let t := afterTx [0x90#8] .mark (afterTx [0x06#8] .space s)
    exact ⟨received 2 t, mayReturn_received 2 t, expectAck_andThen_id .two t⟩
  · exact ⟨received 1 s, mayReturn_received 1 s, expectAck_andThen_id .one s⟩
  · exact ⟨received n s, mayReturn_received n s, fun h => expectMsg_andThen_of_expected h _,
      fun h => expectMsg_andThen_of_unexpected h _⟩
  · refine ⟨envelope body, (buildFrame (envelope body) s).txb, exec_buildMessage_envelope hlen s,
      mayHold_buildFrame _ s, ?_⟩
    rw [exec_sendMsg, execSendMsg, buildMessage_eq body n hlen]
    rfl

end Sys2Proof.Machine
end

section
/-! PROOFS. The data exchange, the abort, and the rows' entries (42_engine.md R221 to R235, R245). -/

namespace Sys2Proof.Machine

open Sys2Proof.Claims

/-! ### Moves that write no state (R245) -/

theorem jump_of_stays {l : Label} (h : l.entryState = none) (s : State) : jump l s = { s with mpc := l } := by
  simp [jump, h]

theorem advance_of_stays {s : State} {l : Label} (hl : s.mpc = l) (h : l.following.entryState = none) :
    advance s = { s with mpc := l.following, dxStep := l.opensStep.getD s.dxStep } := by
  subst hl
  exact jump_of_stays h _

theorem sendFrame_of_stays {labels : List Label} {s : State} {l : Label} (hr : s.phase = .run) (hl : s.mpc = l)
    (b : Bytes) (p : Parity) (hmem : l ∈ labels) (h : l.following.entryState = none) :
    sendFrame labels b p s =
      { afterTx b p s with mpc := l.following, dxStep := l.opensStep.getD s.dxStep } :=
  (sendFrame_pass labels b p s (by simp [State.standsAt, hr, hl, hmem])).trans
    (advance_of_stays (s := txBurst b p s) hl h)

/-! ### What the data exchange sends (R222, R225, R226, R229) -/

/-- A micro-step of the data exchange that sends a frame: the frame goes out and the micro-step is passed. -/
theorem exec_dataExchange_sends {l : Label} {s : State} (h : EngineAt l s) {labels : List Label} {b : Bytes}
    {p : Parity} (hm : microStep (jump l s) = .next (sendFrame labels b p (jump l s)))
    (hl : l ∈ stateLabels .dataExchange ∧ l ∈ labels ∧ l.entryState = none ∧ l.following.entryState = none := by
      decide) :
    exec .dataExchange s =
      .next { afterTx b p s with dxStep := l.opensStep.getD s.dxStep, mpc := l.following } := by
  obtain ⟨hmem, hsends, hstays, hnext⟩ := hl
  rw [exec_dataExchange_at h hmem, hm, sendFrame_of_stays (s := jump l s) h.1 rfl b p hsends hnext,
    jump_of_stays hstays]
  rfl

/-- A command of the data exchange, built in `TXB` and sent (R226, R229). -/
theorem exec_dataExchange_commands {l : Label} {s : State} (h : EngineAt l s) (hst : s.st = .dataExchange)
    {labels : List Label} {b : Bytes} (hm : microStep (jump l s) = .next (sendMessage labels b (jump l s)))
    (hl : l ∈ stateLabels .dataExchange ∧ l ∈ labels ∧ l.entryState = none ∧ l.following.entryState = none := by
      decide) :
    exec .dataExchange s =
      .next { afterTx b .space (afterBuild b s) with dxStep := l.opensStep.getD s.dxStep, mpc := l.following } := by
  obtain ⟨hmem, hsends, hstays, hnext⟩ := hl
  have hbuild : buildFrame b (jump l s) = afterBuild b { s with mpc := l } := by
    rw [jump_of_stays hstays, buildFrame_eq_afterBuild, mayHold_buildFrame b { s with mpc := l } hst]
  rw [exec_dataExchange_at h hmem, hm, sendMessage_eq, hbuild,
    sendFrame_of_stays (s := afterBuild b { s with mpc := l }) h.1 rfl b _ hsends hnext]
  rfl

/-- Settles O32: E22's call, and each sending micro-step's frame. -/
theorem dataExchangeSendsItsFrames : Obligations.DataExchangeSendsItsFrames := by
  intro s hst
  refine ⟨fun h => exec_dataExchange_at h, fun l k l' hmem h => ?_, fun l l' hmem h => ?_, fun d h hd => ?_,
    fun d h hd => ?_⟩
  · simp only [List.mem_cons, Prod.mk.injEq, List.not_mem_nil, or_false] at hmem
    obtain ⟨rfl, rfl, rfl⟩ | ⟨rfl, rfl, rfl⟩ | ⟨rfl, rfl, rfl⟩ := hmem
    · exact exec_dataExchange_sends h (labels := [.x01, .x08, .x14]) rfl
    · exact exec_dataExchange_sends h (labels := [.x01, .x08, .x14]) rfl
    · exact exec_dataExchange_sends h (labels := [.x01, .x08, .x14]) rfl
  · simp only [List.mem_cons, Prod.mk.injEq, List.not_mem_nil, or_false] at hmem
    obtain ⟨rfl, rfl⟩ | ⟨rfl, rfl⟩ | ⟨rfl, rfl⟩ := hmem
    · exact exec_dataExchange_sends h (labels := [.x02, .x09, .x15]) rfl
    · exact exec_dataExchange_sends h (labels := [.x02, .x09, .x15]) rfl
    · exact exec_dataExchange_sends h (labels := [.x02, .x09, .x15]) rfl
  · exact ⟨cmdStatusBytes d.deviceAddress, isMessage_envelope_of_length rfl, rfl,
      exec_dataExchange_commands h hst (labels := [.x04]) (withDev_of_some (s := jump .x04 s) hd _)⟩
  · exact ⟨cmdConfigBytes d.deviceAddress, isMessage_envelope_of_length rfl, rfl,
      exec_dataExchange_commands h hst (labels := [.x11]) (withDev_of_some (s := jump .x11 s) hd _)⟩

/-! ### What the data exchange receives (R222 to R230) -/

/-- An acknowledgement receive of the data exchange goes on to the next micro-step or aborts. -/
theorem exec_dataExchange_expectAck {l : Label} {s : State} (h : EngineAt l s) (e : AckLen)
    (hm : microStep (jump l s) = (expectAck e (jump l s)).andThen advance)
    (hl : l ∈ stateLabels .dataExchange ∧ l.entryState = none ∧ l.following.entryState = none ∧ l.opensStep = none := by
      decide) :
    ∃ r, MayReturn (ackBytes e).length r s ∧ exec .dataExchange s =
      .next { afterRx (ackBytes e).length .long r s with mpc := if r = ackBytes e then l.following else .e99 } := by
  obtain ⟨hmem, hstays, hnext, hopens⟩ := hl
  rw [jump_of_stays hstays] at hm
  refine ⟨received _ { s with mpc := l }, mayReturn_received _ { s with mpc := l }, ?_⟩
  rw [exec_dataExchange_at h hmem, jump_of_stays hstays, hm]
  split_ifs with hack
  · rw [expectAck_andThen_of_ack hack, advance_of_stays (l := l) rfl hnext, hopens]
    rfl
  · rw [expectAck_andThen_of_other hack]
    rfl

/-- A message receive of the data exchange goes on by `k` or aborts. -/
theorem exec_dataExchange_expectMsg {l : Label} {s : State} (h : EngineAt l s) {n : Nat} {header : Bytes}
    {k : State → State} (hm : microStep (jump l s) = (expectMsg n header (jump l s)).andThen k)
    (hl : l ∈ stateLabels .dataExchange ∧ l.entryState = none := by decide) :
    ∃ r, MayReturn n r s ∧
      (IsExpected r n header → exec .dataExchange s = .next (k (afterRx n .long r (jump l s)))) ∧
      (¬ IsExpected r n header → exec .dataExchange s = .next (aborting (afterRx n .long r s))) := by
  obtain ⟨hmem, hstays⟩ := hl
  refine ⟨received n (jump l s), mayReturn_received n (jump l s), fun hok => ?_, fun hbad => ?_⟩
  · rw [exec_dataExchange_at h hmem, hm, expectMsg_andThen_of_expected hok]
  · rw [exec_dataExchange_at h hmem, hm, expectMsg_andThen_of_unexpected hbad, jump_of_stays hstays]
    rfl

/-- Settles O33: five acknowledgement receives and two message receives. -/
theorem dataExchangeReceivesOrAborts : Obligations.DataExchangeReceivesOrAborts := by
  intro s
  refine ⟨fun l l' hmem h => ?_, fun l l' hmem h => ?_, fun h => exec_dataExchange_expectMsg h rfl,
    fun h => exec_dataExchange_expectMsg h rfl⟩
  · simp only [List.mem_cons, Prod.mk.injEq, List.not_mem_nil, or_false] at hmem
    obtain ⟨rfl, rfl⟩ | ⟨rfl, rfl⟩ | ⟨rfl, rfl⟩ := hmem
    · exact exec_dataExchange_expectAck h .two rfl
    · exact exec_dataExchange_expectAck h .two rfl
    · exact exec_dataExchange_expectAck h .two rfl
  · simp only [List.mem_cons, Prod.mk.injEq, List.not_mem_nil, or_false] at hmem
    obtain ⟨rfl, rfl⟩ | ⟨rfl, rfl⟩ := hmem
    · exact exec_dataExchange_expectAck h .one rfl
    · exact exec_dataExchange_expectAck h .one rfl

/-! ### The status reply taken (R227, R228) -/

section ReadingsWord

variable (out hw mix boil : Byte)

theorem readingsWord_out : (readingsWord out hw mix boil).extractLsb' 0 8 = out :=
  extractLsb'_append_low (v := 24) (by decide) BitVec.extractLsb'_eq_self

theorem readingsWord_hw : (readingsWord out hw mix boil).extractLsb' 8 8 = hw :=
  extractLsb'_append_high (w := 8) (by decide) <|
    extractLsb'_append_low (v := 16) (by decide) BitVec.extractLsb'_eq_self

theorem readingsWord_mix : (readingsWord out hw mix boil).extractLsb' 16 8 = mix :=
  extractLsb'_append_high (w := 8) (by decide) <| extractLsb'_append_high (w := 8) (by decide) <|
    extractLsb'_append_low (v := 8) (by decide) BitVec.extractLsb'_eq_self

theorem readingsWord_boil : (readingsWord out hw mix boil).extractLsb' 24 8 = boil :=
  extractLsb'_append_high (w := 8) (by decide) <| extractLsb'_append_high (w := 8) (by decide) <|
    extractLsb'_append_high (w := 8) (by decide) BitVec.extractLsb'_eq_self

end ReadingsWord

/-- X07 in the statements' words. -/
theorem takeStatus_eq {s : State} {d : RegisterSet} (hl : s.mpc = .x07) (hd : s.devs[s.hdl]? = some d) :
    takeStatus s =
      { s with
        rl := statusReadings s.rxb
        devs := s.devs.set s.hdl
          { d with reducedTemp := s.rxb.getD 16 0x00#8, comfortTemp := s.rxb.getD 20 0x00#8 }
        rm := if s.rm = none then some (statusReadings s.rxb) else s.rm
        events := .publish (statusReadings s.rxb) (decide (s.rm = none)) :: s.events
        mpc := .x08 } := by
  rw [takeStatus, updateDev_eq s.hdl _ { s with rl := statusReadings s.rxb } d hd, publish_eq,
    advance_of_stays (l := .x07) _ rfl]
  · cases s.rm <;> rfl
  · exact hl

/-- Settles O36: the frame has the bytes that X07 reads, and the readings word holds four of them. -/
theorem statusReplyStashesAndPublishes : Obligations.StatusReplyStashesAndPublishes := by
  intro s d h hd hlen
  have byte (i : Nat) (hi : i < 24) : s.rxb[i]? = some (s.rxb.getD i 0x00#8) := by
    rw [List.getD_eq_getElem?_getD, List.getElem?_eq_getElem (by omega), Option.getD_some]
  refine ⟨_, _, _, _, _, _, statusReadings s.rxb, byte 10 (by decide), byte 11 (by decide), byte 14 (by decide),
    byte 15 (by decide), byte 16 (by decide), byte 20 (by decide), readingsWord_out _ _ _ _, readingsWord_hw _ _ _ _,
    readingsWord_mix _ _ _ _, readingsWord_boil _ _ _ _, ?_⟩
  have hm : microStep (jump .x07 s) = .next (takeStatus (jump .x07 s)) :=
    (withDev_of_some (s := jump .x07 s) hd _).trans (if_neg (by simp [hlen]))
  rw [exec_dataExchange_at h, hm, takeStatus_eq (s := jump .x07 s) rfl hd]
  rfl

/-! ### The exchange's end (R234) and the abort (R304) -/

/-- X19's return: to the poll phase, or to the nested end (R221, R245). -/
theorem returnFromExchange_eq (s : State) :
    returnFromExchange s =
      { s with
        cfg := List.ofFn (Config.freeCfg s.draws)
        txb := Config.freeTxb s.draws
        draws := s.draws + 1
        mpc := if s.nest = 0 then .e40 else .e48
        st := if s.nest = 0 then .pollSiblings else s.st } := by
  unfold returnFromExchange
  split_ifs <;> rfl

/-- Settles O38: X18's burst, and X19's acknowledgement receive with the return after it. -/
theorem configWriteEndsExchange : Obligations.ConfigWriteEndsExchange := by
  intro s hst
  have x19 (h : EngineAt .x19 s) :
      exec .dataExchange s = (expectAck .one (jump .x19 s)).andThen returnFromExchange := exec_dataExchange_at h
  refine ⟨fun h => exec_dataExchange_sends h (labels := [.x18]) rfl,
    fun h => ⟨received 1 (jump .x19 s), mayReturn_received 1 (jump .x19 s), fun hok => ?_, fun hbad => ?_⟩⟩
  · rw [x19 h, expectAck_andThen_of_ack (e := .one) hok, returnFromExchange_eq, ← hst]
    exact ⟨_, _, List.length_ofFn, rfl⟩
  · rw [x19 h, expectAck_andThen_of_other (e := .one) hbad]
    rfl

/-- Settles O39: the row of every exchange is, at E99, the abort's entry. -/
theorem abortKeepsEverythingWritten : Obligations.AbortKeepsEverythingWritten := by
  intro s i h hi
  have habort (q : EngineState) : exec (stateRow q) s = .next (abortEntry (jump .e99 s)) := by
    rw [exec_stateRow h.1 (.inl h.2), h.2]
    rfl
  obtain ⟨q, rfl⟩ : ∃ q, i = stateRow q := by
    simp only [List.mem_cons, List.not_mem_nil, or_false] at hi
    obtain rfl | rfl | rfl := hi
    · exact ⟨.headerExchange, rfl⟩
    · exact ⟨.dataExchange, rfl⟩
    · exact ⟨.pollSiblings, rfl⟩
  exact ⟨_, _, _, _, habort q⟩

/-! ### Rows run from another state (R245) -/

theorem owner_of_mem_stateLabels {q : EngineState} {l : Label} (h : l ∈ stateLabels q) (st : EngineState) :
    l.owner st = q := by
  have hall : ∀ l ∈ stateLabels q, l.owner st = q := by
    cases q <;> simp [stateLabels, Label.owner]
  exact hall l h

/-- An engine step from a micro-step of another state is the step from the state's entry. -/
theorem engineStep_of_other {q : EngineState} {entry : Label} {s : State} (hr : s.phase = .run)
    (hentry : entry ∈ stateLabels q ∧ entry.entryState = some q) (h99 : s.mpc ≠ .e99) (hother : s.mpc.owner s.st ≠ q) :
    engineStep q entry s = engineStep q entry { s with st := q, mpc := entry } := by
  have hnot : s.mpc ∉ stateLabels q := fun h => hother (owner_of_mem_stateLabels h s.st)
  simp [engineStep, enterState, hr, h99, hnot, hentry.1, jump, hentry.2]

/-- Settles O53: each of the seven rows is the engine step of its state from its entry. -/
theorem engineRowsStartAtTheirEntry : Obligations.EngineRowsStartAtTheirEntry := by
  intro s q entry i hmem hr h99 hother
  have hrow : (∀ t, exec i t = engineStep q entry t) ∧ entry ∈ stateLabels q ∧ entry.entryState = some q := by
    simp only [List.mem_cons, Prod.mk.injEq, List.not_mem_nil, or_false] at hmem
    obtain ⟨rfl, rfl, rfl⟩ | ⟨rfl, rfl, rfl⟩ | ⟨rfl, rfl, rfl⟩ | ⟨rfl, rfl, rfl⟩ | ⟨rfl, rfl, rfl⟩ | ⟨rfl, rfl, rfl⟩ |
      ⟨rfl, rfl, rfl⟩ := hmem <;> exact ⟨fun _ => rfl, by decide⟩
  obtain ⟨hexec, hentry⟩ := hrow
  rw [hexec, hexec, engineStep_of_other hr hentry h99 hother]

end Sys2Proof.Machine
end

section
/-! PROOFS. The frames received and the steps that run frames (30_encoding.md R114 to R123; 41_transport.md R193, R195;
42_engine.md R216 to R243). -/

namespace Sys2Proof.Machine

open Sys2Proof.Claims

/-! ### A frame held ready (41_transport.md R193) -/

/-- The state with the frame `r` as the next answer. -/
def State.offered (r : Bytes) (s : State) : State := { s with busIn := r :: s.busIn }

/-- The state after a receive that returned all of `r`. -/
def State.heard (n : Nat) (t : Tier) (r : Bytes) (s : State) : State :=
  { s with rxb := r, events := .rx n t r :: s.events }

theorem received_offered {n : Nat} {r : Bytes} (h : r.length ≤ n) (s : State) : received n (s.offered r) = r :=
  (received_cons n s r s.busIn).trans (List.take_of_length_le h)

theorem receive_offered {n : Nat} {r : Bytes} (h : r.length ≤ n) (t : Tier) (s : State) :
    receive n t (s.offered r) = s.heard n t r := by
  rw [State.offered, receive_cons, List.take_of_length_le h]
  rfl

/-- An acknowledgement receive with the acknowledgement held ready. -/
theorem expectAck_offered (e : AckLen) (s : State) (k : State → State) :
    (expectAck e (s.offered (ackBytes e))).andThen k =
      .next (k (s.heard (ackBytes e).length .long (ackBytes e))) := by
  rw [expectAck_eq, received_offered le_rfl, if_pos rfl, receive_offered le_rfl]
  rfl

/-- A message receive with an expected message held ready. -/
theorem expectMsg_offered {n : Nat} {header r : Bytes} (hlen : r.length = n) (hr : IsExpected r n header) (s : State)
    (k : State → State) :
    (expectMsg n header (s.offered r)).andThen k = .next (k (s.heard n .long r)) := by
  rw [expectMsg_eq, received_offered hlen.le, if_pos ((accepts_iff_isExpected n header r).2 hr),
    receive_offered hlen.le]
  rfl

/-! ### A frame that arrives -/

/-- A received frame's instruction is its string's arrival. -/
theorem exec_of_encode_rx {i : Instr} {q : EngineState} {r : Bytes} (h : encode i = some (.rx q r)) (s : State) :
    exec i s = arrive r s := by
  cases i with
  | pollRx | ack1 | ack2 | hdrReply | statusReply | configReply => cases h; rfl
  | _ => cases h

/-- A string that arrives at an open receive answers it. -/
theorem arrive_at {l : Label} {s : State} (h : EngineAt l s) (r : Bytes) (hl : l ∈ receiveLabels := by decide) :
    arrive r s = answerReceive r s := by
  obtain ⟨hr, rfl⟩ := h
  exact if_pos (by simp [State.standsAt, hr, hl])

/-- A string that arrives at a receive whose check is not a micro-step of its own. -/
theorem arrive_checked {l : Label} {s : State} (h : EngineAt l s) (r : Bytes)
    (hl : l ∈ receiveLabels ∧ l ≠ .e05 ∧ l ≠ .e44 := by decide) : arrive r s = microStep (s.offered r) := by
  obtain ⟨hmem, h05, h44⟩ := hl
  rw [arrive_at h r hmem]
  obtain ⟨-, rfl⟩ := h
  unfold answerReceive
  split
  · exact absurd ‹_› h05
  · exact absurd ‹_› h44
  · rfl

theorem arrive_e05 {s : State} (h : EngineAt .e05 s) (r : Bytes) :
    arrive r s = .next (microPollFilter (microPollReceive (jump .e05 (s.offered r)))) := by
  rw [arrive_at h r]
  simp [answerReceive, h.2, State.offered]

theorem arrive_e44 {s : State} (h : EngineAt .e44 s) (r : Bytes) :
    arrive r s = .next (microListenCheck (microListen (s.offered r))) := by
  rw [arrive_at h r]
  simp [answerReceive, h.2, State.offered]

/-- Settles O35: no receive is open, so the string goes to the environment's store or is lost. -/
theorem lateFramesAreHeldOrLost : Obligations.LateFramesAreHeldOrLost := by
  intro s i q r henc hclosed
  have hstands : s.standsAt receiveLabels = false := by
    obtain h | h := hclosed
    · simp [State.standsAt, h]
    · simp [State.standsAt, h]
  refine ⟨(arriveLate r s).busIn, ?_, ?_⟩
  · rw [exec_of_encode_rx henc, arrive, hstands]
    rfl
  · unfold arriveLate
    cases Config.heldForLater s.draws with
    | true => exact .inr rfl
    | false => exact .inl rfl

/-! ### POLL_RX (R216) -/

/-- E05's receive of the byte `b`. -/
theorem microPollReceive_offered (b : Byte) (s : State) :
    microPollReceive (jump .e05 (s.offered [b])) = jump .e06 ((jump .e05 s).heard 1 .short [b]) :=
  congrArg (jump .e06) (receive_offered (r := [b]) le_rfl .short (jump .e05 s))

theorem exec_pollRx_at {s : State} (h : EngineAt .e05 s) (b : Byte) :
    exec (.pollRx b) s = .next (pollFilter [b] (jump .e06 ((jump .e05 s).heard 1 .short [b]))) := by
  rw [exec_of_encode_rx rfl, arrive_e05 h, microPollReceive_offered]
  rfl

/-- Settles O30: the receive and the address filter of POLL_RX are the two micro-steps of WAIT_FOR_POLL. -/
theorem pollRxRunsAddressFilter : Obligations.PollRxRunsAddressFilter := by
  intro s b h
  let t := jump .e06 ((jump .e05 s).heard 1 .short [b])
  have hreceive : exec .waitForPoll (s.offered [b]) = .next t :=
    (exec_waitForPoll_at (s := s.offered [b]) h).trans (congrArg Host.Outcome.next (microPollReceive_offered b s))
  refine ⟨t, pollFilter [b] t, hreceive, exec_waitForPoll_at (l := .e06) ⟨h.1, rfl⟩, exec_pollRx_at h b, rfl,
    fun hprev => ?_, fun hprev hkey => ?_⟩
  · rw [pollFilter_unconfirmed (s := t) (.inr hprev)]
    exact ⟨rfl, rfl, rfl⟩
  · obtain ⟨g, hg⟩ := Option.isSome_iff_exists.1 ((reg_isSome_iff s b).2 hkey)
    rw [pollFilter_confirmed (s := t) hg hprev]
    exact ⟨rfl, rfl⟩

/-! ### Expected frames (R222 to R241) -/

@[simp] theorem offered_mpc (r : Bytes) (s : State) : (s.offered r).mpc = s.mpc := rfl

/-- The acknowledgement at a receive that expects it. -/
theorem arrive_ack {l : Label} {s : State} (h : EngineAt l s) {e : AckLen} {k : State → State}
    (hm : microStep (s.offered (ackBytes e)) = (expectAck e (s.offered (ackBytes e))).andThen k)
    (hl : l ∈ receiveLabels ∧ l ≠ .e05 ∧ l ≠ .e44 := by decide) :
    arrive (ackBytes e) s = .next (k (s.heard (ackBytes e).length .long (ackBytes e))) := by
  rw [arrive_checked h _ hl, hm, expectAck_offered]

/-- The acknowledgement at a receive that goes on to the next micro-step. -/
theorem arrive_ack_passes {l : Label} {s : State} (h : EngineAt l s) {e : AckLen}
    (hm : microStep (s.offered (ackBytes e)) = (expectAck e (s.offered (ackBytes e))).andThen advance)
    (hl : (l ∈ receiveLabels ∧ l ≠ .e05 ∧ l ≠ .e44) ∧ l.following.entryState = none ∧ l.opensStep = none := by
      decide) :
    arrive (ackBytes e) s =
      .next { s.heard (ackBytes e).length .long (ackBytes e) with mpc := l.following } := by
  obtain ⟨hreceive, hnext, hopens⟩ := hl
  rw [arrive_ack h hm hreceive, advance_of_stays (s := s.heard _ _ _) h.2 hnext, hopens]
  rfl

/-- An expected message at the receive that expects it. -/
theorem arrive_message {l : Label} {s : State} (h : EngineAt l s) {n : Nat} {header r : Bytes} {k : State → State}
    (hlen : r.length = n) (hr : IsExpected r n header)
    (hm : microStep (s.offered r) = (expectMsg n header (s.offered r)).andThen k)
    (hl : l ∈ receiveLabels ∧ l ≠ .e05 ∧ l ≠ .e44 := by decide) :
    arrive r s = .next (k (s.heard n .long r)) := by
  rw [arrive_checked h _ hl, hm, expectMsg_offered hlen hr]

/-- An envelope is expected where its header is. -/
theorem isExpected_envelope {front payload : Bytes} {n : Nat} (hfront : front.length = 4)
    (hn : payload.length + 8 = n) : IsExpected (envelope (front ++ payload)) n (startByte :: front) := by
  have htake := take_envelope_append front payload
  rw [hfront] at htake
  exact ⟨by simp; omega, isMessage_envelope_of_length (by simp; omega), htake⟩

/-- POLL_RX at E05 (R216). -/
theorem exec_pollRx_cases {s : State} (h : EngineAt .e05 s) (b : Byte) : ∃ g : Nat,
    let confirmed := s.prev = some b ∧ ∃ d ∈ s.devs, d.pollAddress = b
    (confirmed → ∃ d, s.devs[g]? = some d ∧ d.pollAddress = b) ∧
      exec (.pollRx b) s =
        .next { s with
          rxb := [b]
          events := .rx 1 .short [b] :: s.events
          prev := if confirmed then none else some b
          cur := if confirmed then g else s.cur
          st := if confirmed then .headerExchange else .drainSettings
          mpc := if confirmed then .e20 else .e01 } := by
  let t := jump .e06 ((jump .e05 s).heard 1 .short [b])
  by_cases hc : s.prev = some b ∧ ∃ d ∈ s.devs, d.pollAddress = b
  · obtain ⟨g, hg⟩ := Option.isSome_iff_exists.1 ((reg_isSome_iff s b).2 hc.2)
    refine ⟨g, fun _ => reg_some hg, ?_⟩
    simp only [if_pos hc]
    rw [exec_pollRx_at h, pollFilter_confirmed (s := t) hg hc.1]
    rfl
  · refine ⟨0, fun hyes => absurd hyes hc, ?_⟩
    have hno : s.reg b = none ∨ s.prev ≠ some b := by
      rw [← Option.not_isSome_iff_eq_none, reg_isSome_iff]
      exact (not_and_or.1 hc).symm
    simp only [if_neg hc]
    rw [exec_pollRx_at h, pollFilter_unconfirmed (s := t) hno]
    rfl

/-- HDR_REPLY at E21 (R219, R220). -/
theorem exec_hdrReply_at {s : State} {d : RegisterSet} (h : EngineAt .e21 s) (hd : s.devs[s.cur]? = some d) (f : Byte) :
    exec (.hdrReply f) s =
      .next { s.heard 9 .long (hdrReplyBytes f) with
        devs := s.devs.set s.cur { d with skipThermostatsFlag := f.getLsbD 0 }
        st := .dataExchange
        mpc := .e22 } := by
  have hm : microStep (s.offered (hdrReplyBytes f)) =
      (expectMsg 9 hdrReplyHeader (s.offered (hdrReplyBytes f))).andThen headerAccepted := by
    simp only [microStep, offered_mpc, h.2]
    exact withDev_of_some (s := s.offered (hdrReplyBytes f)) hd _
  have hr : IsExpected (hdrReplyBytes f) 9 hdrReplyHeader := isExpected_envelope rfl rfl
  rw [exec_of_encode_rx rfl, arrive_message h (n := 9) rfl hr hm,
    headerAccepted_eq (s := s.heard 9 .long (hdrReplyBytes f)) h.2 hd rfl]
  rfl

/-- Settles O34: each frame answers the receive that expects it, and what follows is the micro-step's own. -/
theorem expectedFramesAreAccepted : Obligations.ExpectedFramesAreAccepted := by
  intro s
  refine ⟨fun b h => exec_pollRx_cases h b, fun h => ?_, fun l l' hmem h => ?_, fun l l' hmem h => ?_, fun h => ?_,
    fun h => ?_, fun d f h hd => ?_, fun p hp h => ?_, fun p hp h => ?_⟩
  · have hx : exec .ack1 s = .next (returnFromExchange (s.heard 1 .long (ackBytes .one))) :=
      arrive_ack h (by simp only [microStep, offered_mpc, h.2]; rfl)
    rw [hx, returnFromExchange_eq]
    exact ⟨_, _, List.length_ofFn, rfl⟩
  · simp only [List.mem_cons, Prod.mk.injEq, List.not_mem_nil, or_false] at hmem
    obtain ⟨rfl, rfl⟩ | ⟨rfl, rfl⟩ := hmem <;>
      exact arrive_ack_passes h (by simp only [microStep, offered_mpc, h.2]; rfl)
  · simp only [List.mem_cons, Prod.mk.injEq, List.not_mem_nil, or_false] at hmem
    obtain ⟨rfl, rfl⟩ | ⟨rfl, rfl⟩ | ⟨rfl, rfl⟩ := hmem <;>
      exact arrive_ack_passes h (by simp only [microStep, offered_mpc, h.2]; rfl)
  · have hlisten : microListen (s.offered (ackBytes .two)) =
        { s.heard 2 .short (ackBytes .two) with mpc := .e45 } := by
      rw [microListen, receive_offered (n := 2) (r := ackBytes .two) le_rfl,
        advance_of_stays (s := s.heard 2 .short (ackBytes .two)) h.2 rfl]
      rfl
    rw [exec_of_encode_rx rfl, arrive_e44 h, hlisten, microListenCheck_of_ack rfl]
    rfl
  · exact arrive_ack h (by simp only [microStep, offered_mpc, h.2]; rfl)
  · exact ⟨hdrReplyBytes f, isExpected_envelope rfl rfl, rfl, rfl, exec_hdrReply_at h hd f⟩
  · have hr : IsExpected (statusReplyBytes p) 24 statusReplyHeader := isExpected_envelope rfl (by rw [hp])
    have hlen : (statusReplyBytes p).length = 24 := by simp [statusReplyBytes, statusReplyHeader, hp]
    have hx : exec (.statusReply p) s = .next (advance (s.heard 24 .long (statusReplyBytes p))) :=
      arrive_message h hlen hr (by simp only [microStep, offered_mpc, h.2]; rfl)
    have hread := memRead_envelope_append (statusReplyHeader.drop 1) p
    rw [hp] at hread
    refine ⟨statusReplyBytes p, hr, hlen, hread, ?_⟩
    rw [hx, advance_of_stays (s := s.heard _ _ _) h.2 rfl]
    rfl
  · have hr : IsExpected (configReplyBytes p) 48 configReplyHeader := isExpected_envelope rfl (by rw [hp])
    have hlen : (configReplyBytes p).length = 48 := by simp [configReplyBytes, configReplyHeader, hp]
    have hx : exec (.configReply p) s =
        .next (advance { s.heard 48 .long (configReplyBytes p) with cfg := configReplyBytes p }) :=
      arrive_message (k := fun t => advance { t with cfg := t.rxb }) h hlen hr
        (by simp only [microStep, offered_mpc, h.2]; rfl)
    have hread := memRead_envelope_append (configReplyHeader.drop 1) p
    rw [hp] at hread
    refine ⟨configReplyBytes p, hr, hlen, hread, ?_⟩
    rw [hx, advance_of_stays (s := { s.heard _ _ _ with cfg := configReplyBytes p }) h.2 rfl]
    rfl

/-! ### Steps that run frames -/

/-- A receive whose micro-step enters no state is run as it stands. -/
theorem step_at_receive {s : State} (ht : s.turn = .engine) (hr : s.phase = .run) (hl : s.mpc.entryState = none) :
    step s = afterExec (microStep s) := by
  have hjump : jump s.mpc s = s := by
    rw [jump_of_stays hl]
  rw [step_engine_row ht hr, engineInstr, exec_stateRow hr (mem_stateLabels_owner s.mpc s.st), hjump]

/-- Settles O45: the frame that arrives is the answer that was held ready. -/
theorem stepRunsReceivedFrame : Obligations.StepRunsReceivedFrame := by
  intro s i q r rest ht hr hmem h05 h44 henc hbus
  have hentry : ∀ l ∈ receiveLabels, l ≠ .e05 → l.entryState = none := by decide
  have hoffered : State.offered r { s with busIn := rest } = s := by
    rw [State.offered, ← hbus]
  rw [step_at_receive ht hr (hentry _ hmem h05), exec_of_encode_rx henc,
    arrive_checked (s := { s with busIn := rest }) ⟨hr, rfl⟩ r ⟨hmem, h05, h44⟩, hoffered]

/-- In a sound position the engine's step is the micro-step at its label. -/
theorem step_engine_microStep {s : State} (ht : s.turn = .engine) (hr : s.phase = .run) (p : PositionSound s) :
    step s = afterExec (microStep s) := by
  rw [step_engine_row ht hr, exec_engineInstr hr p]

/-- Settles O46: the micro-step and the frame's instruction are the same send. -/
theorem stepRunsSentFrame : Obligations.StepRunsSentFrame := by
  intro s ht hr p
  rw [step_engine_microStep ht hr p]
  refine ⟨fun hl => ?_, fun hl => ?_, fun d hl hd => ?_, fun d hl hd => ?_, fun d hl hd => ?_, fun d b hl hcfg => ?_,
    fun a hl ha => ?_, fun d hl hd => ?_⟩
  · simp only [List.mem_cons, List.not_mem_nil, or_false] at hl
    obtain hl | hl | hl := hl <;> simp only [microStep, hl] <;> rfl
  · simp only [List.mem_cons, List.not_mem_nil, or_false] at hl
    obtain hl | hl | hl := hl <;> simp only [microStep, hl] <;> rfl
  · simp only [microStep, hl, microHdrAck, withDev_of_some hd]
    rfl
  · simp only [microStep, hl, microCmdStatus, withDev_of_some hd]
    rfl
  · simp only [microStep, hl, microCmdConfig, withDev_of_some hd]
    rfl
  · simp only [microStep, hl, microConfigWrite, hcfg]
    rfl
  · simp only [microStep, hl, microPollSend, withPollEntry_of_some ha]
    rfl
  · simp only [microStep, hl, microPollReply, withDev_of_some hd]
    rfl

end Sys2Proof.Machine
end
